-- ==== Sys2Proof/Word.lean ====
section
/-! DEFINITION. The two word types of the BL-2: the byte of a frame (11 R183) and the site time (10 R175). Lengths and
positions are integers in tenths of a millimetre (00 section 1.6.1) and are `Int`; identifiers and counts are `Nat`. -/

namespace Sys2Proof

/-- A byte of a frame: 8 data bits (11 R183). TAGs and feed generations are bytes too: they count modulo 256. -/
abbrev Byte := BitVec 8

/-- A site time: the 32-bit millisecond counter, which wraps (10 R175). -/
abbrev Time := BitVec 32

/-- The elapsed difference of two site times: the later minus the earlier, modulo 2^32 (00 section 1.6.3, 10 R175). -/
def elapsed (now earlier : Time) : Nat := (now - earlier).toNat

end Sys2Proof
end

