-- ==== Sys2Proof/Syntax.lean ====
section
/-! DEFINITION. The commands of the BL-2: one constructor per row of spec/opcode_table.json, with the operands its rule
names. A request command carries, first, the TAG of its frame (11 R183). Lengths, positions and parameter values are
`Int`, identifiers and counts `Nat`; what fits the field of a frame is said in WellFormed. -/

namespace Sys2Proof

/-- The four ports: planner, arm, tracker, feeder (00 section 1.5). -/
inductive Port where
  | p | a | t | f
  deriving DecidableEq, Repr

/-- The four filtered sensor lines (10 R176). -/
inductive Line where
  | armReady | truckParked | groundShift | windHold
  deriving DecidableEq, Repr

/-- A command to the BL-2: a request at its service, or an event on a port, a line, a deadline or the clock. -/
inductive Instr where
  -- 01 Walls, Openings and Brick Kinds (port P)
  /-- R3: WALL OPEN (wall, length). -/
  | wallOpen (tag : Byte) (wall : Nat) (length : Int)
  /-- R5: WALL CLOSE (wall). -/
  | wallClose (tag : Byte) (wall : Nat)
  /-- R6: WALL READ (wall, starting position in the chain). -/
  | wallRead (tag : Byte) (wall start : Nat)
  /-- R10: FEATURE ADD (wall, x_a, x_b, z_sill, z_head). -/
  | featureAdd (tag : Byte) (wall : Nat) (xa xb zSill zHead : Int)
  /-- R11: FEATURE DROP (feature). -/
  | featureDrop (tag : Byte) (feature : Nat)
  /-- R12: LINTEL SET (feature, top z, bearing). -/
  | lintelSet (tag : Byte) (feature : Nat) (topZ bearing : Int)
  /-- R13: CONFIG KIND (kind, L, H, bed depth, Cmin, Lt); Lt may be left absent. -/
  | configKind (tag : Byte) (kind : Nat) (length height bedDepth cmin : Int) (lt : Option Int)
  /-- R14: CONFIG PROFILE (profile, Jn, Jmin, Jmax, Bn, T_open); T_open may be left absent. -/
  | configProfile (tag : Byte) (profile : Nat) (jn jmin jmax bn : Int) (tOpen : Option Nat)
  /-- R17: CONFIG PARAM, parameter 1. -/
  | configParamSawStep (tag : Byte) (value : Int)
  /-- R18: CONFIG PARAM, parameter 2. -/
  | configParamMinimumLap (tag : Byte) (value : Int)
  /-- R141: CONFIG PARAM, parameters 3 to 7. -/
  | configParamTolerance (tag : Byte) (parameter : Nat) (value : Int)
  /-- R118: CONFIG PARAM, parameter 8. -/
  | configParamSetTime (tag : Byte) (value : Int)
  /-- R153: CONFIG PARAM, parameter 9. -/
  | configParamDatumSkew (tag : Byte) (value : Int)
  /-- R174: CONFIG PARAM, parameter 10. -/
  | configParamStrictReferences (tag : Byte) (value : Int)
  /-- R178: CONFIG PARAM, parameters 11 to 14; a number that names no parameter (R16) arrives here too (log 16). -/
  | configParamEdgeSense (tag : Byte) (parameter : Nat) (value : Int)
  /-- R20: CONFIG READ (item), the item's table byte and number (R189). -/
  | configRead (tag : Byte) (table number : Nat)
  -- 02 to 04 Courses, Slots, Solver (port P)
  /-- R25: COURSE BEGIN (wall, kind, profile, run count). -/
  | courseBegin (tag : Byte) (wall kind profile runCount : Nat)
  /-- R26: RUN ENTRY (start, end). -/
  | runEntry (tag : Byte) (start stop : Int)
  /-- R27: COURSE ABANDON. -/
  | courseAbandon (tag : Byte)
  /-- R48: COURSE RETIRE (wall, course number). -/
  | courseRetire (tag : Byte) (wall number : Nat)
  /-- R64: COURSE READ (wall, course number, run order); the run order may be absent. -/
  | courseRead (tag : Byte) (wall number : Nat) (order : Option Nat)
  /-- R63: SLOT READ (slot id). -/
  | slotRead (tag : Byte) (slot : Nat)
  /-- R65: ACCEPT (slot id). -/
  | accept (tag : Byte) (slot : Nat)
  /-- R67: RELAY (slot id). -/
  | relay (tag : Byte) (slot : Nat)
  /-- R86: RUN SLACK (wall, course number, run order). -/
  | runSlack (tag : Byte) (wall number order : Nat)
  -- 05 The Feed Queue (port P)
  /-- R106: FLUSH. -/
  | flush (tag : Byte)
  /-- R110: QUEUE READ. -/
  | queueRead (tag : Byte)
  -- 08 Stations and Reach (port P)
  /-- R151: STATION SET (wall, x_lo, x_hi, z_hi). -/
  | stationSet (tag : Byte) (wall : Nat) (xLo xHi zHi : Int)
  /-- R154: STATION MOVE. -/
  | stationMove (tag : Byte)
  /-- R162: STATION READ. -/
  | stationRead (tag : Byte)
  -- 09 Faults and Attention (port P)
  /-- R171: STATUS. -/
  | status (tag : Byte)
  /-- R172: ACKNOWLEDGE (reasons), a 2-byte set (R189). -/
  | acknowledge (tag : Byte) (reasons : BitVec 16)
  /-- R169: ENABLE (enables), a 2-byte set (R189). -/
  | enable (tag : Byte) (enables : BitVec 16)
  /-- R173: CLEAR FAULT (flag), 1..6 (R189). -/
  | clearFault (tag : Byte) (flag : Nat)
  /-- R167: CAPTURE READ (capture), 1 process, 2 geometry (R189). -/
  | captureRead (tag : Byte) (capture : Nat)
  /-- R167: CAPTURE CLEAR (capture). -/
  | captureClear (tag : Byte) (capture : Nat)
  -- 06 Issue and Placement (port A)
  /-- R112: NEXT. -/
  | next (tag : Byte)
  /-- R121: PLACED (slot id). -/
  | placed (tag : Byte) (slot : Nat)
  /-- R124: DECLINE (slot id). -/
  | decline (tag : Byte) (slot : Nat)
  -- 07, 08 (port T)
  /-- R134: MEASURE (slot id, x_right, y_off, z_top). -/
  | measure (tag : Byte) (slot : Nat) (xRight yOff zTop : Int)
  /-- R139: ABSENT (slot id). -/
  | absent (tag : Byte) (slot : Nat)
  /-- R153: DATUM (ox, oy, oz, skew). -/
  | datum (tag : Byte) (ox oy oz skew : Int)
  -- 05 (port F)
  /-- R99: PICK (kind offered, gauged length). -/
  | pick (tag : Byte) (kind : Nat) (gauged : Int)
  /-- R103: DELIVERED (tag), the feed generation and slot id of the brick's feed tag (R191). -/
  | delivered (tag : Byte) (generation : Byte) (slot : Nat)
  -- Internal events
  /-- R28: expiry of the open load's inactivity deadline. -/
  | loadInactivityTimeout
  /-- R127: expiry of the open joint of a run. -/
  | openJointExpiry (run : Nat)
  -- 10 Lines and Site Time
  /-- R176: the raw level of a line becomes the one given. -/
  | rawInputChange (line : Line) (asserted : Bool)
  /-- R129: filtered falling edge of ARM_READY. -/
  | armReadyFalling
  /-- R129: filtered rising edge of ARM_READY. -/
  | armReadyRising
  /-- R158: filtered falling edge of TRUCK_PARKED. -/
  | truckParkedFalling
  /-- R159: filtered rising edge of TRUCK_PARKED. -/
  | truckParkedRising
  /-- R160: filtered rising edge of GROUND_SHIFT. -/
  | groundShiftRising
  /-- R160: filtered falling edge of GROUND_SHIFT. -/
  | groundShiftFalling
  /-- R177: filtered edge of WIND_HOLD, in the direction of its raw level. -/
  | windHoldEdge
  /-- R179: falling edge of RESET_N. -/
  | resetNFalling
  /-- R179: rising edge of RESET_N after a low of the given width, in microseconds, under 20 ms. -/
  | linkReset (lowMicros : Nat)
  /-- R180: RESET_N low reaching 20 ms. -/
  | fullReset
  /-- R180: rising edge of RESET_N ending a full reset, with the level of the SAW_FITTED pin (R181). -/
  | fullResetRelease (sawPin : Bool)
  /-- R180: application of power. -/
  | powerUp
  /-- R180: release of the supply monitor's hold, with the level of the SAW_FITTED pin (R181). -/
  | powerUpRelease (sawPin : Bool)
  /-- R180: the supply falls below its operating range. -/
  | supplyFall
  -- 11 Ports and Frames
  /-- R184: bytes arrive on a port, each with its stop bit high: those of a whole frame, or a part of one (log 6). -/
  | frameReceived (port : Port) (bytes : List Byte)
  /-- R184: more than 1 ms passes between two bytes of one frame. -/
  | interByteTimeout (port : Port)
  /-- R187: the last byte of the response at the head of a port's transmit queue has left. -/
  | responseSent (port : Port)
  /-- R184: a byte arrives with its stop bit low. -/
  | stopBitLow (port : Port)
  /-- R175: one millisecond of site time. -/
  | siteTimeIncrement
  deriving DecidableEq, Repr

end Sys2Proof
end

