-- ==== Sys2Proof/Config.lean ====
section
/-! DEFINITION. What the spec leaves open and the model leaves free: constants without a body. No statement can rest on
their values. Each has an entry in the assumption log. -/

namespace Sys2Proof

/-- Free value (log 10): the byte that stands for a port in the answers to CAPTURE READ and CAPTURE CLEAR. R165 says
"one of P, A, T, F"; R189 lists the codes of the other enumerations and gives none for a port. -/
opaque Config.portCode : Port → Byte

/-- Free value (log 11): the byte with which RUN SLACK says whether its face E was measured (`some true`), predicted
(`some false`) or neither (`none`). R87 says that the answer carries it; R189 gives no code. -/
opaque Config.faceCode : Option Bool → Byte

/-- Free value (log 12): the bits of a 3-byte signed field (R189) whose value lies outside −2^23..2^23 − 1. -/
opaque Config.overflow24 : Int → BitVec 24

/-- Free value (log 13): the byte that stands for a reject reason in the answer to MEASURE, by the reason's severity 1..7
(R142). R134 says that the answer carries the reasons, most severe first; R189 gives no code. -/
opaque Config.rejectCode : Nat → Byte

end Sys2Proof
end

