-- ==== Sys2Proof/WellFormed.lean ====
section
/-! DEFINITION. A command is well formed when each operand fits the field that carries it (11 R189, R191, R192). Whether a
value that fits is in the range of its rule is the machine's to answer (REFUSED OUT_OF_RANGE), not a matter of form. -/

namespace Sys2Proof

/-- A 1-byte unsigned field. -/
def fitsU8 (n : Nat) : Bool := n < 256

/-- A 2-byte unsigned field. -/
def fitsU16 (n : Nat) : Bool := n < 65536

/-- A 4-byte unsigned field. -/
def fitsU32 (n : Nat) : Bool := n < 4294967296

/-- A 2-byte signed field: the skew of DATUM (R192). -/
def fitsS16 (z : Int) : Bool := decide (-32768 ≤ z ∧ z < 32768)

/-- A 3-byte signed field: a position, an offset or a length (R189). -/
def fitsS24 (z : Int) : Bool := decide (-8388608 ≤ z ∧ z < 8388608)

/-- A 4-byte signed field: the value of a parameter (R189). -/
def fitsS32 (z : Int) : Bool := decide (-2147483648 ≤ z ∧ z < 2147483648)

/-- A 1-byte field for a head-joint width of a profile (R189, log 14). -/
def fitsJoint (z : Int) : Bool := decide (0 ≤ z ∧ z < 256)

/-- The parameter numbers that CONFIG_PARAM_TOLERANCE carries (R189). -/
def isToleranceNumber (n : Nat) : Bool := decide (3 ≤ n ∧ n ≤ 7)

/-- The parameter numbers that CONFIG_PARAM_EDGE_SENSE carries: the four senses (R189) and, of the numbers that one byte
holds, those that name no parameter (log 16). -/
def isSenseNumber (n : Nat) : Bool := decide (n = 0 ∨ (11 ≤ n ∧ n < 256))

/-- Every operand fits its field. -/
def Instr.wellFormed : Instr → Bool
  | .wallOpen _ wall length => fitsU8 wall && fitsS24 length
  | .wallClose _ wall => fitsU8 wall
  | .wallRead _ wall start => fitsU8 wall && fitsU8 start
  | .featureAdd _ wall xa xb zSill zHead => fitsU8 wall && fitsS24 xa && fitsS24 xb && fitsS24 zSill && fitsS24 zHead
  | .featureDrop _ feature => fitsU8 feature
  | .lintelSet _ feature topZ bearing => fitsU8 feature && fitsS24 topZ && fitsS24 bearing
  | .configKind _ kind length height bedDepth cmin lt =>
      fitsU8 kind && fitsS24 length && fitsS24 height && fitsS24 bedDepth && fitsS24 cmin && lt.all fitsS24
  | .configProfile _ profile jn jmin jmax bn tOpen =>
      fitsU8 profile && fitsJoint jn && fitsJoint jmin && fitsJoint jmax && fitsS24 bn && tOpen.all fitsU32
  | .configParamSawStep _ value => fitsS32 value
  | .configParamMinimumLap _ value => fitsS32 value
  | .configParamTolerance _ parameter value => isToleranceNumber parameter && fitsS32 value
  | .configParamSetTime _ value => fitsS32 value
  | .configParamDatumSkew _ value => fitsS32 value
  | .configParamStrictReferences _ value => fitsS32 value
  | .configParamEdgeSense _ parameter value => isSenseNumber parameter && fitsS32 value
  | .configRead _ table number => fitsU8 table && fitsU8 number
  | .courseBegin _ wall kind profile runCount => fitsU8 wall && fitsU8 kind && fitsU8 profile && fitsU8 runCount
  | .runEntry _ start stop => fitsS24 start && fitsS24 stop
  | .courseAbandon _ => true
  | .courseRetire _ wall number => fitsU8 wall && fitsU8 number
  | .courseRead _ wall number order => fitsU8 wall && fitsU8 number && order.all fitsU8
  | .slotRead _ slot => fitsU16 slot
  | .accept _ slot => fitsU16 slot
  | .relay _ slot => fitsU16 slot
  | .runSlack _ wall number order => fitsU8 wall && fitsU8 number && fitsU8 order
  | .flush _ => true
  | .queueRead _ => true
  | .stationSet _ wall xLo xHi zHi => fitsU8 wall && fitsS24 xLo && fitsS24 xHi && fitsS24 zHi
  | .stationMove _ => true
  | .stationRead _ => true
  | .status _ => true
  | .acknowledge _ _ => true
  | .enable _ _ => true
  | .clearFault _ flag => fitsU8 flag
  | .captureRead _ capture => fitsU8 capture
  | .captureClear _ capture => fitsU8 capture
  | .next _ => true
  | .placed _ slot => fitsU16 slot
  | .decline _ slot => fitsU16 slot
  | .measure _ slot xRight yOff zTop => fitsU16 slot && fitsS24 xRight && fitsS24 yOff && fitsS24 zTop
  | .absent _ slot => fitsU16 slot
  | .datum _ ox oy oz skew => fitsS24 ox && fitsS24 oy && fitsS24 oz && fitsS16 skew
  | .pick _ kind gauged => fitsU8 kind && decide (0 ≤ gauged ∧ gauged < 65536)
  | .delivered _ _ slot => fitsU16 slot
  | .loadInactivityTimeout => true
  | .openJointExpiry run => decide (run < 128)
  | .rawInputChange _ _ => true
  | .armReadyFalling => true
  | .armReadyRising => true
  | .truckParkedFalling => true
  | .truckParkedRising => true
  | .groundShiftRising => true
  | .groundShiftFalling => true
  | .windHoldEdge => true
  | .resetNFalling => true
  | .linkReset lowMicros => decide (lowMicros < 20000)
  | .fullReset => true
  | .fullResetRelease _ => true
  | .powerUp => true
  | .powerUpRelease _ => true
  | .supplyFall => true
  | .frameReceived _ bytes => decide (1 ≤ bytes.length ∧ bytes.length ≤ 70)
  | .interByteTimeout _ => true
  | .responseSent _ => true
  | .stopBitLow _ => true
  | .siteTimeIncrement => true

end Sys2Proof
end

