-- ==== Sys2Proof/Decode.lean ====
section
/-! DEFINITION. The layouts of 11 R183, R189, R191 and R192: multi-byte fields, the CRC, the codes of the requests, and
the reading of a request from a frame's payload. `decodeTableWord` is the host's: no row of the table gives bits. -/

namespace Sys2Proof

/-! ### Fields, most significant byte first (R189) -/

/-- A 1-byte unsigned field. -/
def u8 (n : Nat) : List Byte := [BitVec.ofNat 8 n]

/-- A 2-byte field. -/
def bytes16 (v : BitVec 16) : List Byte := [v.extractLsb' 8 8, v.extractLsb' 0 8]

/-- A 3-byte field. -/
def bytes24 (v : BitVec 24) : List Byte := [v.extractLsb' 16 8, v.extractLsb' 8 8, v.extractLsb' 0 8]

/-- A 4-byte field. -/
def bytes32 (v : BitVec 32) : List Byte :=
  [v.extractLsb' 24 8, v.extractLsb' 16 8, v.extractLsb' 8 8, v.extractLsb' 0 8]

/-- A 2-byte unsigned field. -/
def u16 (n : Nat) : List Byte := bytes16 (BitVec.ofNat 16 n)

/-- A 4-byte unsigned field. -/
def u32 (n : Nat) : List Byte := bytes32 (BitVec.ofNat 32 n)

/-- A 2-byte signed field, in two's complement. -/
def s16 (z : Int) : List Byte := bytes16 (BitVec.ofInt 16 z)

/-- A 3-byte signed field, in two's complement, of a value that fits it. -/
def s24 (z : Int) : List Byte := bytes24 (BitVec.ofInt 24 z)

/-- A 4-byte signed field, in two's complement. -/
def s32 (z : Int) : List Byte := bytes32 (BitVec.ofInt 32 z)

/-- Two bytes read as unsigned. -/
def readU16 (b1 b0 : Byte) : Nat := (b1 ++ b0).toNat

/-- Four bytes read as unsigned. -/
def readU32 (b3 b2 b1 b0 : Byte) : Nat := (b3 ++ b2 ++ b1 ++ b0).toNat

/-- Two bytes read as signed. -/
def readS16 (b1 b0 : Byte) : Int := (b1 ++ b0).toInt

/-- Three bytes read as signed. -/
def readS24 (b2 b1 b0 : Byte) : Int := (b2 ++ b1 ++ b0).toInt

/-- Four bytes read as signed. -/
def readS32 (b3 b2 b1 b0 : Byte) : Int := (b3 ++ b2 ++ b1 ++ b0).toInt

/-! ### Frames (R183) -/

/-- The SYNC byte. -/
def sync : Byte := 0xA5

/-- One bit of the CRC of R183, polynomial x^16 + x^12 + x^5 + 1, most significant bit first. -/
def crcShift (c : BitVec 16) : BitVec 16 := if c.msb then (c <<< 1) ^^^ 0x1021 else c <<< 1

/-- One byte of the CRC. -/
def crcByte (c : BitVec 16) (b : Byte) : BitVec 16 :=
  crcShift (crcShift (crcShift (crcShift (crcShift (crcShift (crcShift (crcShift (c ^^^ (b ++ (0 : BitVec 8))))))))))

/-- The CRC over TAG, CODE, LEN and payload, in the order sent (R183). -/
def crc (bytes : List Byte) : BitVec 16 := bytes.foldl crcByte 0xFFFF

/-- A whole frame (R183): SYNC, TAG, CODE, LEN, payload, CRC high byte first. -/
def frameBytes (tag : Byte) (code : Nat) (payload : List Byte) : List Byte :=
  let body := tag :: BitVec.ofNat 8 code :: BitVec.ofNat 8 payload.length :: payload
  sync :: (body ++ bytes16 (crc body))

/-! ### The request codes (R189, section 11.6) -/

/-- What the frame of a request says of it beside its fields: its port, its TAG and its code. -/
structure Header where
  port : Port
  tag : Byte
  code : Nat
  deriving DecidableEq, Repr

/-- The port, tag and code of a request; `none` for a command that is an event and no request. -/
def Instr.header : Instr → Option Header
  | .wallOpen tag _ _ => some ⟨.p, tag, 1⟩
  | .wallClose tag _ => some ⟨.p, tag, 2⟩
  | .wallRead tag _ _ => some ⟨.p, tag, 3⟩
  | .featureAdd tag _ _ _ _ _ => some ⟨.p, tag, 4⟩
  | .featureDrop tag _ => some ⟨.p, tag, 5⟩
  | .lintelSet tag _ _ _ => some ⟨.p, tag, 6⟩
  | .configKind tag _ _ _ _ _ _ => some ⟨.p, tag, 7⟩
  | .configProfile tag _ _ _ _ _ _ => some ⟨.p, tag, 8⟩
  | .configParamSawStep tag _ => some ⟨.p, tag, 9⟩
  | .configParamMinimumLap tag _ => some ⟨.p, tag, 9⟩
  | .configParamTolerance tag _ _ => some ⟨.p, tag, 9⟩
  | .configParamSetTime tag _ => some ⟨.p, tag, 9⟩
  | .configParamDatumSkew tag _ => some ⟨.p, tag, 9⟩
  | .configParamStrictReferences tag _ => some ⟨.p, tag, 9⟩
  | .configParamEdgeSense tag _ _ => some ⟨.p, tag, 9⟩
  | .configRead tag _ _ => some ⟨.p, tag, 10⟩
  | .courseBegin tag _ _ _ _ => some ⟨.p, tag, 11⟩
  | .runEntry tag _ _ => some ⟨.p, tag, 12⟩
  | .courseAbandon tag => some ⟨.p, tag, 13⟩
  | .courseRetire tag _ _ => some ⟨.p, tag, 14⟩
  | .courseRead tag _ _ _ => some ⟨.p, tag, 15⟩
  | .slotRead tag _ => some ⟨.p, tag, 16⟩
  | .accept tag _ => some ⟨.p, tag, 17⟩
  | .relay tag _ => some ⟨.p, tag, 18⟩
  | .runSlack tag _ _ _ => some ⟨.p, tag, 19⟩
  | .flush tag => some ⟨.p, tag, 20⟩
  | .queueRead tag => some ⟨.p, tag, 21⟩
  | .stationSet tag _ _ _ _ => some ⟨.p, tag, 22⟩
  | .stationMove tag => some ⟨.p, tag, 23⟩
  | .stationRead tag => some ⟨.p, tag, 24⟩
  | .status tag => some ⟨.p, tag, 25⟩
  | .acknowledge tag _ => some ⟨.p, tag, 26⟩
  | .enable tag _ => some ⟨.p, tag, 27⟩
  | .clearFault tag _ => some ⟨.p, tag, 28⟩
  | .captureRead tag _ => some ⟨.p, tag, 29⟩
  | .captureClear tag _ => some ⟨.p, tag, 30⟩
  | .next tag => some ⟨.a, tag, 33⟩
  | .placed tag _ => some ⟨.a, tag, 34⟩
  | .decline tag _ => some ⟨.a, tag, 35⟩
  | .measure tag _ _ _ _ => some ⟨.t, tag, 49⟩
  | .absent tag _ => some ⟨.t, tag, 50⟩
  | .datum tag _ _ _ _ => some ⟨.t, tag, 51⟩
  | .pick tag _ _ => some ⟨.f, tag, 65⟩
  | .delivered tag _ _ => some ⟨.f, tag, 66⟩
  | .loadInactivityTimeout => none
  | .openJointExpiry _ => none
  | .rawInputChange _ _ => none
  | .armReadyFalling => none
  | .armReadyRising => none
  | .truckParkedFalling => none
  | .truckParkedRising => none
  | .groundShiftRising => none
  | .groundShiftFalling => none
  | .windHoldEdge => none
  | .resetNFalling => none
  | .linkReset _ => none
  | .fullReset => none
  | .fullResetRelease _ => none
  | .powerUp => none
  | .powerUpRelease _ => none
  | .supplyFall => none
  | .frameReceived _ _ => none
  | .interByteTimeout _ => none
  | .responseSent _ => none
  | .stopBitLow _ => none
  | .siteTimeIncrement => none

/-! ### Reading a request (R184 checks 2 and 3, R189, R191, R192) -/

/-- CONFIG PARAM by its parameter number (R189). -/
def paramRequest (tag : Byte) (parameter : Nat) (value : Int) : Instr :=
  if parameter = 1 then .configParamSawStep tag value
  else if parameter = 2 then .configParamMinimumLap tag value
  else if isToleranceNumber parameter then .configParamTolerance tag parameter value
  else if parameter = 8 then .configParamSetTime tag value
  else if parameter = 9 then .configParamDatumSkew tag value
  else if parameter = 10 then .configParamStrictReferences tag value
  else .configParamEdgeSense tag parameter value

/-- A request of the planner port, codes 1 to 21 (Record Engine). -/
def recordRequest (tag : Byte) (code : Nat) (payload : List Byte) : Option Instr :=
  match code, payload with
  | 1, [w, l2, l1, l0] => some (.wallOpen tag w.toNat (readS24 l2 l1 l0))
  | 2, [w] => some (.wallClose tag w.toNat)
  | 3, [w, n] => some (.wallRead tag w.toNat n.toNat)
  | 4, [w, a2, a1, a0, b2, b1, b0, c2, c1, c0, d2, d1, d0] =>
      some (.featureAdd tag w.toNat (readS24 a2 a1 a0) (readS24 b2 b1 b0) (readS24 c2 c1 c0) (readS24 d2 d1 d0))
  | 5, [n] => some (.featureDrop tag n.toNat)
  | 6, [n, a2, a1, a0, b2, b1, b0] => some (.lintelSet tag n.toNat (readS24 a2 a1 a0) (readS24 b2 b1 b0))
  | 7, [k, a2, a1, a0, b2, b1, b0, c2, c1, c0, d2, d1, d0] =>
      some (.configKind tag k.toNat (readS24 a2 a1 a0) (readS24 b2 b1 b0) (readS24 c2 c1 c0) (readS24 d2 d1 d0) none)
  | 7, [k, a2, a1, a0, b2, b1, b0, c2, c1, c0, d2, d1, d0, e2, e1, e0] =>
      some (.configKind tag k.toNat (readS24 a2 a1 a0) (readS24 b2 b1 b0) (readS24 c2 c1 c0) (readS24 d2 d1 d0)
        (some (readS24 e2 e1 e0)))
  | 8, [k, a, b, c, d2, d1, d0] =>
      some (.configProfile tag k.toNat a.toNat b.toNat c.toNat (readS24 d2 d1 d0) none)
  | 8, [k, a, b, c, d2, d1, d0, t3, t2, t1, t0] =>
      some (.configProfile tag k.toNat a.toNat b.toNat c.toNat (readS24 d2 d1 d0) (some (readU32 t3 t2 t1 t0)))
  | 9, [n, v3, v2, v1, v0] => some (paramRequest tag n.toNat (readS32 v3 v2 v1 v0))
  | 10, [t, n] => some (.configRead tag t.toNat n.toNat)
  | 11, [w, k, p, n] => some (.courseBegin tag w.toNat k.toNat p.toNat n.toNat)
  | 12, [a2, a1, a0, b2, b1, b0] => some (.runEntry tag (readS24 a2 a1 a0) (readS24 b2 b1 b0))
  | 13, [] => some (.courseAbandon tag)
  | 14, [w, n] => some (.courseRetire tag w.toNat n.toNat)
  | 15, [w, n] => some (.courseRead tag w.toNat n.toNat none)
  | 15, [w, n, o] => some (.courseRead tag w.toNat n.toNat (some o.toNat))
  | 16, [s1, s0] => some (.slotRead tag (readU16 s1 s0))
  | 17, [s1, s0] => some (.accept tag (readU16 s1 s0))
  | 18, [s1, s0] => some (.relay tag (readU16 s1 s0))
  | 19, [w, n, o] => some (.runSlack tag w.toNat n.toNat o.toNat)
  | 20, [] => some (.flush tag)
  | 21, [] => some (.queueRead tag)
  | _, _ => none

/-- A request of the planner port, codes 22 to 30 (Station Unit and Fault Unit). -/
def unitRequest (tag : Byte) (code : Nat) (payload : List Byte) : Option Instr :=
  match code, payload with
  | 22, [w, a2, a1, a0, b2, b1, b0, c2, c1, c0] =>
      some (.stationSet tag w.toNat (readS24 a2 a1 a0) (readS24 b2 b1 b0) (readS24 c2 c1 c0))
  | 23, [] => some (.stationMove tag)
  | 24, [] => some (.stationRead tag)
  | 25, [] => some (.status tag)
  | 26, [r1, r0] => some (.acknowledge tag (r1 ++ r0))
  | 27, [r1, r0] => some (.enable tag (r1 ++ r0))
  | 28, [n] => some (.clearFault tag n.toNat)
  | 29, [n] => some (.captureRead tag n.toNat)
  | 30, [n] => some (.captureClear tag n.toNat)
  | _, _ => none

/-- A request of the arm port. -/
def armRequest (tag : Byte) (code : Nat) (payload : List Byte) : Option Instr :=
  match code, payload with
  | 33, [] => some (.next tag)
  | 34, [s1, s0] => some (.placed tag (readU16 s1 s0))
  | 35, [s1, s0] => some (.decline tag (readU16 s1 s0))
  | _, _ => none

/-- A request of the tracker port (R192). -/
def trackerRequest (tag : Byte) (code : Nat) (payload : List Byte) : Option Instr :=
  match code, payload with
  | 49, [s1, s0, a2, a1, a0, b2, b1, b0, c2, c1, c0] =>
      some (.measure tag (readU16 s1 s0) (readS24 a2 a1 a0) (readS24 b2 b1 b0) (readS24 c2 c1 c0))
  | 50, [s1, s0] => some (.absent tag (readU16 s1 s0))
  | 51, [a2, a1, a0, b2, b1, b0, c2, c1, c0, k1, k0] =>
      some (.datum tag (readS24 a2 a1 a0) (readS24 b2 b1 b0) (readS24 c2 c1 c0) (readS16 k1 k0))
  | _, _ => none

/-- A request of the feeder port (R191). -/
def feederRequest (tag : Byte) (code : Nat) (payload : List Byte) : Option Instr :=
  match code, payload with
  | 65, [k, g1, g0] => some (.pick tag k.toNat (readU16 g1 g0))
  | 66, [g, s1, s0] => some (.delivered tag g (readU16 s1 s0))
  | _, _ => none

/-- The request that a frame with this CODE and payload is on this port; `none` drops it: the CODE is no request code of
the port, or LEN is not the length of the request's fields or that length less a trailing optional field (R184). -/
def decodeRequest (port : Port) (tag : Byte) (code : Nat) (payload : List Byte) : Option Instr :=
  match port with
  | .p => if code ≤ 21 then recordRequest tag code payload else unitRequest tag code payload
  | .a => armRequest tag code payload
  | .t => trackerRequest tag code payload
  | .f => feederRequest tag code payload

/-! ### Writing a request: the payload of its frame -/

/-- The payload of a CONFIG PARAM frame. -/
def paramPayload (parameter : Nat) (value : Int) : List Byte := u8 parameter ++ s32 value

/-- The payload of a request's frame, its fields in the order of its rule (R189); empty for an event. -/
def Instr.payload : Instr → List Byte
  | .wallOpen _ wall length => u8 wall ++ s24 length
  | .wallClose _ wall => u8 wall
  | .wallRead _ wall start => u8 wall ++ u8 start
  | .featureAdd _ wall xa xb zSill zHead => u8 wall ++ s24 xa ++ s24 xb ++ s24 zSill ++ s24 zHead
  | .featureDrop _ feature => u8 feature
  | .lintelSet _ feature topZ bearing => u8 feature ++ s24 topZ ++ s24 bearing
  | .configKind _ kind length height bedDepth cmin lt =>
      u8 kind ++ s24 length ++ s24 height ++ s24 bedDepth ++ s24 cmin ++ (lt.map s24).getD []
  | .configProfile _ profile jn jmin jmax bn tOpen =>
      u8 profile ++ u8 jn.toNat ++ u8 jmin.toNat ++ u8 jmax.toNat ++ s24 bn ++ (tOpen.map u32).getD []
  | .configParamSawStep _ value => paramPayload 1 value
  | .configParamMinimumLap _ value => paramPayload 2 value
  | .configParamTolerance _ parameter value => paramPayload parameter value
  | .configParamSetTime _ value => paramPayload 8 value
  | .configParamDatumSkew _ value => paramPayload 9 value
  | .configParamStrictReferences _ value => paramPayload 10 value
  | .configParamEdgeSense _ parameter value => paramPayload parameter value
  | .configRead _ table number => u8 table ++ u8 number
  | .courseBegin _ wall kind profile runCount => u8 wall ++ u8 kind ++ u8 profile ++ u8 runCount
  | .runEntry _ start stop => s24 start ++ s24 stop
  | .courseAbandon _ => []
  | .courseRetire _ wall number => u8 wall ++ u8 number
  | .courseRead _ wall number order => u8 wall ++ u8 number ++ (order.map u8).getD []
  | .slotRead _ slot => u16 slot
  | .accept _ slot => u16 slot
  | .relay _ slot => u16 slot
  | .runSlack _ wall number order => u8 wall ++ u8 number ++ u8 order
  | .flush _ => []
  | .queueRead _ => []
  | .stationSet _ wall xLo xHi zHi => u8 wall ++ s24 xLo ++ s24 xHi ++ s24 zHi
  | .stationMove _ => []
  | .stationRead _ => []
  | .status _ => []
  | .acknowledge _ reasons => bytes16 reasons
  | .enable _ enables => bytes16 enables
  | .clearFault _ flag => u8 flag
  | .captureRead _ capture => u8 capture
  | .captureClear _ capture => u8 capture
  | .next _ => []
  | .placed _ slot => u16 slot
  | .decline _ slot => u16 slot
  | .measure _ slot xRight yOff zTop => u16 slot ++ s24 xRight ++ s24 yOff ++ s24 zTop
  | .absent _ slot => u16 slot
  | .datum _ ox oy oz skew => s24 ox ++ s24 oy ++ s24 oz ++ s16 skew
  | .pick _ kind gauged => u8 kind ++ u16 gauged.toNat
  | .delivered _ generation slot => generation :: u16 slot
  | .loadInactivityTimeout => []
  | .openJointExpiry _ => []
  | .rawInputChange _ _ => []
  | .armReadyFalling => []
  | .armReadyRising => []
  | .truckParkedFalling => []
  | .truckParkedRising => []
  | .groundShiftRising => []
  | .groundShiftFalling => []
  | .windHoldEdge => []
  | .resetNFalling => []
  | .linkReset _ => []
  | .fullReset => []
  | .fullResetRelease _ => []
  | .powerUp => []
  | .powerUpRelease _ => []
  | .supplyFall => []
  | .frameReceived _ _ => []
  | .interByteTimeout _ => []
  | .responseSent _ => []
  | .stopBitLow _ => []
  | .siteTimeIncrement => []

/-- The whole frame of a request, as its client sends it (R183); `none` for an event. -/
def Instr.frame (i : Instr) : Option (List Byte) :=
  i.header.map fun h => frameBytes h.tag h.code i.payload

/-! ### The table's words -/

/-- The command that a word spells by the table's bits. No row of spec/opcode_table.json gives bits (every row's "fields"
is empty), so no word spells one. -/
def decodeTableWord (_nbits _w : Nat) : Option Instr := none

end Sys2Proof
end

