-- ==== Sys2Proof/Machine/State.lean ====
section
/-! DEFINITION. The state of the BL-2 as plain data, with the values it holds right after a full reset is released.

A table of records is a list of (identifier, record) pairs, identifiers strictly rising, that lists only the records in
use: a wall not listed is CLOSED, a feature, run or slot not listed is free, a kind or profile not listed is undefined, a
course entry not listed is EMPTY. Each such record holds its reset values by the spec (R2, R7, R13, R14, R21, R40, R50),
so nothing is lost by not listing it (log 7). -/

namespace Sys2Proof.Machine

/-! ### Record Engine: walls, openings, kinds, profiles, parameters (01) -/

/-- R2: the record of an OPEN wall. -/
structure Wall where
  length : Int
  chainHead : Nat
  nextCourse : Nat
  baseCourse : Nat
  settledTop : Int
  deriving DecidableEq, Repr

/-- R7: a lintel, when present. -/
structure Lintel where
  topZ : Int
  bearing : Int
  deriving DecidableEq, Repr

/-- R7: the record of a feature linked into its wall's chain. -/
structure Feature where
  wall : Nat
  xa : Int
  xb : Int
  zSill : Int
  zHead : Int
  lintel : Option Lintel
  next : Nat
  deriving DecidableEq, Repr

/-- R13: the record of a defined brick kind. -/
structure Kind where
  length : Int
  height : Int
  bedDepth : Int
  cmin : Int
  lt : Int
  deriving DecidableEq, Repr

/-- R14: the record of a defined joint profile. -/
structure Profile where
  jn : Int
  jmin : Int
  jmax : Int
  bn : Int
  tOpen : Nat
  deriving DecidableEq, Repr

/-- The global parameters of CONFIG PARAM but for the edge senses, which the Line Unit holds (00 section 1.8). -/
structure Params where
  sawStep : Int
  minimumLap : Int
  tolX : Int
  tolY : Int
  tolZ : Int
  tolEnd : Int
  tolJoint : Int
  setTime : Nat
  maxSkew : Int
  strictReferences : Bool
  deriving DecidableEq, Repr

/-! ### Record Engine: courses, runs, slots (02, 03) -/

/-- R21: the states of a held course; EMPTY is an entry not listed. -/
inductive CourseState where
  | loading | active | complete
  deriving DecidableEq, Repr

/-- R21: a held course entry. -/
structure Course where
  state : CourseState
  wall : Nat
  number : Nat
  kind : Nat
  profile : Nat
  baseZ : Int
  runCount : Nat
  runIds : Option (List Nat)
  deriving DecidableEq, Repr

/-- R23: the load record, when present. `received` is in order of arrival. -/
structure Load where
  entry : Nat
  expected : Nat
  received : List (Int × Int)
  deadline : Time
  deriving DecidableEq, Repr

/-- R126: a run's open joint, when present. -/
structure OpenJoint where
  index : Nat
  deadline : Time
  deriving DecidableEq, Repr

/-- R40: the record of a live run. -/
structure Run where
  course : Nat
  order : Nat
  start : Int
  stop : Int
  n : Nat
  firstSlot : Nat
  slotIds : List Nat
  closerLength : Option Int
  closerCommitted : Bool
  openJoint : Option OpenJoint
  deriving DecidableEq, Repr

/-- Section 3.3: the states of a live slot; FREE is a slot not listed. -/
inductive SlotState where
  | planned | fed | issued | uncertain | placed | verified | rejected
  deriving DecidableEq, Repr

/-- R59, R142: the reject reason codes, the most severe first. -/
inductive RejectReason where
  | coldJoint | missing | height | plane | endFace | position | joint
  deriving DecidableEq, Repr

/-- R58: a measurement, in the wall frame. -/
structure Measurement where
  xRight : Int
  yOff : Int
  zTop : Int
  deriving DecidableEq, Repr

/-- R51 to R59: the record of a live slot. -/
structure Slot where
  course : Nat
  run : Nat
  index : Nat
  kind : Nat
  closer : Bool
  plannedLeft : Int
  plannedJoint : Option Int
  supports : List Nat
  lintelSupported : Bool
  state : SlotState
  cutLength : Option Int
  generation : Option Byte
  gauged : Option Int
  targetLeft : Option Int
  targetJoint : Option Int
  placedTime : Option Time
  measurement : Option Measurement
  /-- Absent is the empty list: a list that is present holds at least one code (R59). -/
  rejectReasons : List RejectReason
  reapply : Bool
  predicted : Bool
  clamped : Bool
  cold : Bool
  accepted : Bool
  deriving DecidableEq, Repr

/-! ### Record Engine: the feed queue (05) -/

/-- R88: where the brick of an entry is. -/
inductive Position where
  | onBelt | atGripper
  deriving DecidableEq, Repr

/-- R88: an entry of the feed queue; its tag is `generation` and `slot`. -/
structure Entry where
  generation : Byte
  slot : Nat
  kind : Nat
  gauged : Int
  cutLength : Option Int
  position : Position
  deriving DecidableEq, Repr

/-! ### Station Unit (08) -/

/-- Section 8.2: the states of the station. -/
inductive StationState where
  | unset | parked | draining | moving | lost
  deriving DecidableEq, Repr

/-- R149: the station record. -/
structure Station where
  state : StationState
  wall : Nat
  xLo : Int
  xHi : Int
  zHi : Int
  ox : Int
  oy : Int
  oz : Int
  skew : Int
  datumValid : Bool
  deriving DecidableEq, Repr

/-! ### Line Unit (10) -/

/-- R178: the direction of a filtered edge, and of the sense against which it is judged. -/
inductive Sense where
  | rising | falling
  deriving DecidableEq, Repr

/-- R176: a filter. It waits while the raw level differs from the filtered level. `true` is asserted. -/
structure Filter where
  raw : Bool
  level : Bool
  changedAt : Time
  deriving DecidableEq, Repr

/-- One thing for each of the four sensor lines. -/
structure Lines (α : Type) where
  arm : α
  parked : α
  ground : α
  wind : α
  deriving DecidableEq, Repr

/-- R180: what holds the part in a full reset, if anything. -/
inductive Hold where
  | running | byResetN | bySupply
  deriving DecidableEq, Repr

/-! ### Fault Unit (09) -/

/-- R163: the six fault flags. -/
structure FaultFlags where
  sequence : Bool
  parkLost : Bool
  loadTimeout : Bool
  overrun : Bool
  reference : Bool
  reject : Bool
  deriving DecidableEq, Repr

/-- R165: the class of a captured fault. -/
inductive FaultClass where
  | sequence | parkLost | loadTimeout | overrun | reference | geometry
  deriving DecidableEq, Repr

/-- R165: the course of a captured fault, as it stood when the report was made. -/
structure CapturedCourse where
  entry : Nat
  wall : Nat
  number : Nat
  deriving DecidableEq, Repr

/-- R165: the fault a capture record holds. -/
structure Captured where
  cls : FaultClass
  severity : Nat
  time : Time
  slot : Option Nat
  course : Option CapturedCourse
  port : Option Port
  detail : Int
  deriving DecidableEq, Repr

/-! ### Port Unit (11) -/

/-- Section 11.6: the answer codes, in the order of their values 0..10. -/
inductive AnswerCode where
  | ok | held | wait | busy | none | hold | refused | late | duplicate | discard | overrun
  deriving DecidableEq, Repr

/-- Section 11.6: the reason codes; `none` is 0, the others 1..50 in the order of their values. -/
inductive ReasonCode where
  | none
  | outOfRange | noRecord | badState | busy | noSpace | inUse | undefined | sawStep | liveCourse | loading | lintel
  | lintelSet | station | overlap | built | courseLimit | noLoad | runsOverlap | crossesOpening | runTooShort
  | runUnsolvable | runTooLong | noSaw | supportOverflow | unsupported | lapShort | notComplete | setting | notLowest
  | notRejected | notLast | loaded | wrongKind | lengthOut | sequence | armNotReady | notIssued | notPlaced
  | notApplicable | notParked | datumRange | datumSkew | queueNotEmpty | halted | datum | wind | noBrick | reach
  | predecessor | support
  deriving DecidableEq, Repr

/-- What a service answers: the two leading bytes of the payload, and the bytes that follow them (R187). -/
structure Reply where
  answer : AnswerCode
  reason : ReasonCode
  detail : List Byte
  deriving DecidableEq, Repr

/-- R187: a response in a transmit queue. `code` is the request's code; the frame carries it plus 128. -/
structure Response where
  tag : Byte
  code : Nat
  reply : Reply
  deriving DecidableEq, Repr

/-- R184: the states of a receiver. `bytes` are those taken since SYNC, in order of arrival. -/
inductive Receiver where
  | hunt
  | header (bytes : List Byte)
  | payload (bytes : List Byte)
  | check (bytes : List Byte)
  deriving DecidableEq, Repr

/-- R184, R185, R187: the state of one port. `transmit` is in the order in which the responses are sent. -/
structure PortState where
  receiver : Receiver
  outstanding : Bool
  lastTag : Option Byte
  transmit : List Response
  deriving DecidableEq, Repr

/-- The four ports. -/
structure Ports where
  p : PortState
  a : PortState
  t : PortState
  f : PortState
  deriving DecidableEq, Repr

/-- R186: a request in the inbound queue. `passes` is the pass count of a planner request. -/
structure Waiting where
  request : Instr
  passes : Nat
  deriving DecidableEq, Repr

/-! ### The whole part -/

/-- The state of the BL-2, and the queue of commands that wait. -/
structure State where
  -- Record Engine
  walls : List (Nat × Wall)
  features : List (Nat × Feature)
  kinds : List (Nat × Kind)
  profiles : List (Nat × Profile)
  params : Params
  courses : List (Nat × Course)
  load : Option Load
  runs : List (Nat × Run)
  slots : List (Nat × Slot)
  queue : List Entry
  generation : Byte
  -- Station Unit
  station : Station
  -- Line Unit
  siteTime : Time
  filters : Lines Filter
  senses : Lines Sense
  sawFitted : Bool
  /-- The level of the RESET_N pin; `true` is high (R179). -/
  resetN : Bool
  hold : Hold
  -- Fault Unit
  flags : FaultFlags
  processCapture : Option Captured
  geometryCapture : Option Captured
  /-- Bit i is the reason in place i of the table of R168. Bits 7 to 10 are the four edge flags of the Line Unit. -/
  reasons : BitVec 11
  enables : BitVec 11
  attn : Bool
  haltReq : Bool
  -- Port Unit
  ports : Ports
  /-- R186: oldest first. -/
  inbound : List Waiting
  /-- R186: the request that the arbiter has chosen and that is not yet answered. -/
  serving : Option Instr
  -- The model's own
  pending : List Instr
  deriving DecidableEq, Repr

/-- Why a step stops for good. No rule of the spec stops the BL-2, so there is no fault: every command ends in a next
state, and what the spec calls a fault is a flag and a capture (09). -/
inductive Fault where
  deriving DecidableEq, Repr

/-- Why a command has no meaning. -/
inductive Refusal where
  /-- Raised by `exec` for a command that has no meaning yet. No arm raises it: every command has its meaning. Safe. -/
  | notModelled (mnemonic : String)
  deriving DecidableEq, Repr

/-- A port after a full reset and after a link reset (R184, R185, R188). -/
def PortState.idle : PortState := { receiver := .hunt, outstanding := false, lastTag := none, transmit := [] }

/-- A filter at rest on a deasserted line. -/
def Filter.idle : Filter := { raw := false, level := false, changedAt := 0 }

/-- The BL-2 right after a full reset is released, before any request (R180). The pins are at the levels of log 2: the
four sensor lines deasserted, RESET_N high, SAW_FITTED unconnected and so sampled as 0. -/
def State.reset : State where
  walls := []
  features := []
  kinds := []
  profiles := []
  params :=
    { sawStep := 5, minimumLap := 500, tolX := 30, tolY := 20, tolZ := 20, tolEnd := 40, tolJoint := 15
      setTime := 30000, maxSkew := 50, strictReferences := false }
  courses := []
  load := none
  runs := []
  slots := []
  queue := []
  generation := 0
  station :=
    { state := .unset, wall := 0, xLo := 0, xHi := 0, zHi := 0, ox := 0, oy := 0, oz := 0, skew := 0
      datumValid := false }
  siteTime := 0
  filters := { arm := Filter.idle, parked := Filter.idle, ground := Filter.idle, wind := Filter.idle }
  senses := { arm := .rising, parked := .rising, ground := .rising, wind := .rising }
  sawFitted := false
  resetN := true
  hold := .running
  flags :=
    { sequence := false, parkLost := false, loadTimeout := false, overrun := false, reference := false, reject := false }
  processCapture := none
  geometryCapture := none
  reasons := 0
  enables := 0x40
  attn := false
  haltReq := false
  ports := { p := PortState.idle, a := PortState.idle, t := PortState.idle, f := PortState.idle }
  inbound := []
  serving := none
  pending := []

end Sys2Proof.Machine
end

