-- ==== Sys2Proof/Machine/Operands.lean ====
section
/-! DEFINITION. The bytes of an answer: the codes of the enumerations, the flags bytes, the optional fields and the
lengths (11 R187, R189 to R192). -/

namespace Sys2Proof.Machine

/-! ### Codes (section 11.6) -/

/-- The value of an answer code, 0..10. -/
def AnswerCode.value : AnswerCode → Nat
  | .ok => 0 | .held => 1 | .wait => 2 | .busy => 3 | .none => 4 | .hold => 5
  | .refused => 6 | .late => 7 | .duplicate => 8 | .discard => 9 | .overrun => 10

/-- The value of a reason code, 0..50. -/
def ReasonCode.value : ReasonCode → Nat
  | .none => 0
  | .outOfRange => 1 | .noRecord => 2 | .badState => 3 | .busy => 4 | .noSpace => 5 | .inUse => 6
  | .undefined => 7 | .sawStep => 8 | .liveCourse => 9 | .loading => 10 | .lintel => 11 | .lintelSet => 12
  | .station => 13 | .overlap => 14 | .built => 15 | .courseLimit => 16 | .noLoad => 17 | .runsOverlap => 18
  | .crossesOpening => 19 | .runTooShort => 20 | .runUnsolvable => 21 | .runTooLong => 22 | .noSaw => 23
  | .supportOverflow => 24
  | .unsupported => 25 | .lapShort => 26 | .notComplete => 27 | .setting => 28 | .notLowest => 29 | .notRejected => 30
  | .notLast => 31 | .loaded => 32 | .wrongKind => 33 | .lengthOut => 34 | .sequence => 35 | .armNotReady => 36
  | .notIssued => 37 | .notPlaced => 38 | .notApplicable => 39 | .notParked => 40 | .datumRange => 41
  | .datumSkew => 42 | .queueNotEmpty => 43 | .halted => 44 | .datum => 45 | .wind => 46 | .noBrick => 47
  | .reach => 48 | .predecessor => 49 | .support => 50

/-- R190: the code of a slot state. -/
def SlotState.value : SlotState → Nat
  | .planned => 1 | .fed => 2 | .issued => 3 | .uncertain => 4 | .placed => 5 | .verified => 6 | .rejected => 7

/-- R189: the code of a course state. -/
def CourseState.value : CourseState → Nat
  | .loading => 1 | .active => 2 | .complete => 3

/-- R189: the code of a station state. -/
def StationState.value : StationState → Nat
  | .unset => 1 | .parked => 2 | .draining => 3 | .moving => 4 | .lost => 5

/-- R189: the code of a queue position. -/
def Position.value : Position → Nat
  | .onBelt => 0 | .atGripper => 1

/-- R189: the code of a capture class. -/
def FaultClass.value : FaultClass → Nat
  | .sequence => 1 | .parkLost => 2 | .loadTimeout => 3 | .overrun => 4 | .reference => 5 | .geometry => 6

/-- R142: the severity of a reject reason. -/
def RejectReason.severity : RejectReason → Nat
  | .coldJoint => 7 | .missing => 6 | .height => 5 | .plane => 4 | .endFace => 3 | .position => 2 | .joint => 1

/-! ### Fields of an answer -/

/-- A two-valued field: 0 for no or off, 1 for yes or on (R189). -/
def yesNo (b : Bool) : List Byte := u8 (if b then 1 else 0)

/-- The number whose bit i is flag i of the list. -/
def packFlags : List Bool → Nat
  | [] => 0
  | b :: bs => (if b then 1 else 0) + 2 * packFlags bs

/-- Flags packed into one byte, from bit 0 (R189). -/
def flagsByte (flags : List Bool) : List Byte := u8 (packFlags flags)

/-- A 3-byte signed field (R189): a position, offset, length, deviation or detail. The bits of a value outside 24 bits are
open (log 12). -/
def s24Field (z : Int) : List Byte := if fitsS24 z then s24 z else bytes24 (Config.overflow24 z)

/-- A 1-byte head-joint width (R189). -/
def jointField (z : Int) : List Byte := u8 z.toNat

/-- A 2-byte length of the brick of a slot (R189). -/
def brickField (z : Int) : List Byte := u16 z.toNat

/-- An optional field: a presence byte, then the field, or zeros as long as the field (R189). -/
def optField {α : Type} (width : Nat) (field : α → List Byte) : Option α → List Byte
  | none => yesNo false ++ List.replicate width 0
  | some v => yesNo true ++ field v

/-- A site time (R189: 4 bytes). -/
def timeField (t : Time) : List Byte := bytes32 t

/-- A set of reasons or enables: 2 bytes, bit i for place i of the table of R168. R189 gives this form for the set that
ACKNOWLEDGE and ENABLE carry; that the answers to STATUS, ACKNOWLEDGE and ENABLE send their sets in it is a DESIGN CHOICE
(log 26). -/
def reasonsField (r : BitVec 11) : List Byte := bytes16 (r.setWidth 16)

/-! ### Answers -/

/-- OK with the fields that follow (R187: reason 0). -/
def Reply.okWith (detail : List Byte) : Reply := { answer := .ok, reason := .none, detail := detail }

/-- OK with no field. -/
def Reply.okay : Reply := Reply.okWith []

/-- REFUSED with a reason and the fields that follow. -/
def Reply.refusedWith (reason : ReasonCode) (detail : List Byte) : Reply :=
  { answer := .refused, reason := reason, detail := detail }

/-- REFUSED with a reason and no field. -/
def Reply.refuse (reason : ReasonCode) : Reply := Reply.refusedWith reason []

/-- WAIT with a reason and the fields that follow. -/
def Reply.waitFor (reason : ReasonCode) (detail : List Byte) : Reply :=
  { answer := .wait, reason := reason, detail := detail }

/-- An answer code that carries no reason (R187: reason 0), with the fields that follow. -/
def Reply.plain (answer : AnswerCode) (detail : List Byte) : Reply :=
  { answer := answer, reason := .none, detail := detail }

/-- The payload of a response: answer, reason, then the fields (R187). -/
def Reply.payload (r : Reply) : List Byte := u8 r.answer.value ++ u8 r.reason.value ++ r.detail

/-- The frame of a response: the TAG of its request and the request's code plus 128 (R183, R187). -/
def Response.frame (r : Response) : List Byte := frameBytes r.tag (r.code + 128) r.reply.payload

end Sys2Proof.Machine
end

