-- ==== Sys2Proof/Machine/Flags.lean ====
section
/-! DEFINITION. The Fault Unit's flags, captures, reasons and outputs: what a report does (09 R163 to R170, R174). Every
rule that reports a fault or raises a reason goes through `State.report` or `State.raise`. -/

namespace Sys2Proof.Machine

/-- R168: the eleven reasons, in the order of the table. -/
inductive Reason where
  | drained | courseComplete | slotRejected | slotUncertain | datumLost | loadTimeout | fault
  | lineArm | lineParked | lineGround | lineWind
  deriving DecidableEq, Repr

/-- The place of a reason in the table of R168, counting from 0 (R189). -/
def Reason.place : Reason → Nat
  | .drained => 0 | .courseComplete => 1 | .slotRejected => 2 | .slotUncertain => 3 | .datumLost => 4
  | .loadTimeout => 5 | .fault => 6 | .lineArm => 7 | .lineParked => 8 | .lineGround => 9 | .lineWind => 10

/-- The set that holds one reason. -/
def Reason.bit (r : Reason) : BitVec 11 := 1 <<< r.place

/-- Whether a reason is set. -/
def State.isRaised (s : State) (r : Reason) : Bool := s.reasons.getLsbD r.place

/-- The reason that is the edge flag of a line, as the Fault Unit sees it (R168, R178). -/
def lineReason : Line → Reason
  | .armReady => .lineArm | .truckParked => .lineParked | .groundShift => .lineGround | .windHold => .lineWind

/-- R163: the six flags, in the order of the table (R189 numbers them 1..6). -/
inductive FaultFlag where
  | sequence | parkLost | loadTimeout | overrun | reference | reject
  deriving DecidableEq, Repr

/-- Whether a flag is set. -/
def FaultFlags.get (f : FaultFlags) : FaultFlag → Bool
  | .sequence => f.sequence | .parkLost => f.parkLost | .loadTimeout => f.loadTimeout
  | .overrun => f.overrun | .reference => f.reference | .reject => f.reject

/-- The flags with one of them set or clear. -/
def FaultFlags.put (f : FaultFlags) (flag : FaultFlag) (b : Bool) : FaultFlags :=
  match flag with
  | .sequence => { f with sequence := b } | .parkLost => { f with parkLost := b }
  | .loadTimeout => { f with loadTimeout := b } | .overrun => { f with overrun := b }
  | .reference => { f with reference := b } | .reject => { f with reject := b }

/-- R163: a severe flag is set. -/
def FaultFlags.severe (f : FaultFlags) : Bool := f.sequence || f.parkLost

/-- The six flags in one byte (R189). -/
def FaultFlags.field (f : FaultFlags) : List Byte :=
  flagsByte [f.sequence, f.parkLost, f.loadTimeout, f.overrun, f.reference, f.reject]

/-- Which of SEQUENCE and PARK_LOST are set, in one byte (R95, R115). -/
def FaultFlags.severeField (f : FaultFlags) : List Byte := flagsByte [f.sequence, f.parkLost]

/-- R170: both outputs are derived from the flags, reasons and enables as they now stand. -/
def State.deriveOutputs (s : State) : State :=
  { s with attn := (s.reasons &&& s.enables) != 0, haltReq := s.flags.severe }

/-- R168: a reason is raised. -/
def State.raise (s : State) (r : Reason) : State := { s with reasons := s.reasons ||| r.bit }.deriveOutputs

/-- R163: a flag is set or cleared. -/
def State.putFlag (s : State) (flag : FaultFlag) (b : Bool) : State :=
  { s with flags := s.flags.put flag b }.deriveOutputs

/-- What a fault report names (R165). -/
structure Report where
  flag : FaultFlag
  severity : Nat
  slot : Option Nat
  course : Option CapturedCourse
  port : Option Port
  detail : Int
  deriving DecidableEq, Repr

/-- R165: the class of the fault that a flag's report offers. -/
def FaultFlag.faultClass : FaultFlag → FaultClass
  | .sequence => .sequence | .parkLost => .parkLost | .loadTimeout => .loadTimeout
  | .overrun => .overrun | .reference => .reference | .reject => .geometry

/-- R166: a capture takes an offer when it is empty or the offer is strictly more severe than what it holds. -/
def offered (held : Option Captured) (offer : Captured) : Option Captured :=
  match held with
  | none => some offer
  | some c => if offer.severity > c.severity then some offer else some c

/-- R164 step 2: the fault is offered to the capture of its flag's kind. -/
def State.offer (s : State) (r : Report) : State :=
  let c : Captured :=
    { cls := r.flag.faultClass, severity := r.severity, time := s.siteTime, slot := r.slot, course := r.course
      port := r.port, detail := r.detail }
  if r.flag = .reject then { s with geometryCapture := offered s.geometryCapture c }
  else { s with processCapture := offered s.processCapture c }

/-- R164 step 3: the reason that belongs to a report of a flag that stood as given. -/
def FaultFlag.reason (flag : FaultFlag) (wasSet : Bool) : Option Reason :=
  match flag with
  | .sequence => if wasSet then none else some .fault
  | .parkLost => if wasSet then none else some .fault
  | .loadTimeout => some .loadTimeout
  | .overrun => none
  | .reference => none
  | .reject => some .slotRejected

/-- R164: a fault report, its four steps in order. -/
def State.report (s : State) (r : Report) : State :=
  let s' := (s.putFlag r.flag true).offer r
  match r.flag.reason (s.flags.get r.flag) with
  | none => s'.deriveOutputs
  | some reason => s'.raise reason

/-- R174: a reference event, a fault report only while strict references is on. `detail` is the record type times 65 536
plus the identifier. -/
def State.referenceEvent (s : State) (port : Port) (slot : Option Nat) (recordType identifier : Nat) : State :=
  if s.params.strictReferences then
    s.report
      { flag := .reference, severity := 1, slot := slot, course := none, port := some port
        detail := (recordType * 65536 + identifier : Nat) }
  else s

/-- A refusal with NO_RECORD and the reference event it is reported as (R1, R62, R174). -/
def State.refuseNoRecord (s : State) (port : Port) (slot : Option Nat) (recordType identifier : Nat)
    (detail : List Byte) : Reply × State :=
  (Reply.refusedWith .noRecord detail, s.referenceEvent port slot recordType identifier)

end Sys2Proof.Machine
end

