-- ==== Sys2Proof/Machine/Ops.lean ====
section
/-! DEFINITION. The operations that the meanings share: the tables of records, the reading of a slot's course, run, kind
and lengths, the ports with their transmit queues, the arbiter, and the service of a request (11 R185 to R187). -/

namespace Sys2Proof.Machine

/-! ### Tables of records -/

/-- The record of an identifier, if it is in use. -/
def Table.find {α : Type} : List (Nat × α) → Nat → Option α
  | [], _ => none
  | (j, v) :: t, k => if j = k then some v else Table.find t k

/-- The table with a record written. -/
def Table.put {α : Type} : List (Nat × α) → Nat → α → List (Nat × α)
  | [], k, v => [(k, v)]
  | (j, w) :: t, k, v =>
    if k < j then (k, v) :: (j, w) :: t else if k = j then (k, v) :: t else (j, w) :: Table.put t k v

/-- The table with a record freed. -/
def Table.free {α : Type} (t : List (Nat × α)) (k : Nat) : List (Nat × α) := t.filter fun e => e.1 ≠ k

/-- The table with a record changed, where it is in use. -/
def Table.update {α : Type} (t : List (Nat × α)) (k : Nat) (f : α → α) : List (Nat × α) :=
  t.map fun e => if e.1 = k then (e.1, f e.2) else e

/-- The identifiers not in use, lowest first, among `count` identifiers from `first`. -/
def Table.unused {α : Type} (t : List (Nat × α)) (first count : Nat) : List Nat :=
  (List.range' first count).filter fun k => (Table.find t k).isNone

/-- R50: at most 512 slots, ids 0..511. -/
def slotCapacity : Nat := 512
/-- Section 1.8: 128 runs. -/
def runCapacity : Nat := 128
/-- R21: 48 course entries. -/
def courseCapacity : Nat := 48
/-- R7: 64 features, 1..64. -/
def featureCapacity : Nat := 64

/-- R21: identifier not in use: the record of a run that is not live reads as free, all fields 0 (log 8). -/
def Run.blank : Run :=
  { course := 0, order := 0, start := 0, stop := 0, n := 0, firstSlot := 0, slotIds := [], closerLength := none
    closerCommitted := false, openJoint := none }

/-- R13: an undefined kind has all fields 0. -/
def Kind.blank : Kind := { length := 0, height := 0, bedDepth := 0, cmin := 0, lt := 0 }

/-- R14: an undefined profile has all fields 0. -/
def Profile.blank : Profile := { jn := 0, jmin := 0, jmax := 0, bn := 0, tOpen := 0 }

/-- R21: an EMPTY entry has all fields 0 and the run ids absent (log 8). -/
def Course.blank : Course :=
  { state := .loading, wall := 0, number := 0, kind := 0, profile := 0, baseZ := 0, runCount := 0, runIds := none }

/-! ### Reading records -/

/-- The record of a wall, when it is OPEN. -/
def State.wall (s : State) (w : Nat) : Option Wall := Table.find s.walls w
/-- The record of a feature, when it is in a chain. -/
def State.feature (s : State) (k : Nat) : Option Feature := Table.find s.features k
/-- The record of a course entry, when it is held. -/
def State.course (s : State) (e : Nat) : Option Course := Table.find s.courses e
/-- The record of a run, when it is live. -/
def State.run (s : State) (r : Nat) : Option Run := Table.find s.runs r
/-- The record of a slot, when it is live. -/
def State.slot (s : State) (id : Nat) : Option Slot := Table.find s.slots id
/-- The record of a kind. -/
def State.kind (s : State) (k : Nat) : Kind := (Table.find s.kinds k).getD Kind.blank
/-- The record of a profile. -/
def State.profile (s : State) (k : Nat) : Profile := (Table.find s.profiles k).getD Profile.blank
/-- The run of a slot. -/
def State.runOf (s : State) (sl : Slot) : Run := (s.run sl.run).getD Run.blank
/-- The course of a slot. -/
def State.courseOf (s : State) (sl : Slot) : Course := (s.course sl.course).getD Course.blank
/-- The profile of a slot's course. -/
def State.profileOf (s : State) (sl : Slot) : Profile := s.profile (s.courseOf sl).profile

/-- R21: the top of a course is its base z plus the height of its kind. -/
def State.topOf (s : State) (c : Course) : Int := c.baseZ + (s.kind c.kind).height

/-- R52: L for a whole brick, the planned closer length of the run for a closer. -/
def State.plannedLength (s : State) (sl : Slot) : Int :=
  if sl.closer then (s.runOf sl).closerLength.getD 0 else (s.kind sl.kind).length

/-- R52: the end of the planned span. -/
def State.plannedRight (s : State) (sl : Slot) : Int := sl.plannedLeft + s.plannedLength sl

/-- R70: cut length of a closer, else gauged length, else planned length. -/
def State.currentLength (s : State) (sl : Slot) : Int :=
  match sl.closer, sl.cutLength with
  | true, some c => c
  | _, _ => sl.gauged.getD (s.plannedLength sl)

/-- R56: the target left face plus the current length. -/
def State.targetRight (s : State) (sl : Slot) : Int := sl.targetLeft.getD 0 + s.currentLength sl

/-- R2: a course is live when its entry is ACTIVE or COMPLETE. -/
def Course.live (c : Course) : Bool := c.state ≠ .loading

/-- The held course of a wall with a number, with its entry (R21: at most one). -/
def State.heldCourse (s : State) (wall number : Nat) : Option (Nat × Course) :=
  s.courses.find? fun e => e.2.wall = wall ∧ e.2.number = number

/-- The live course of a wall with a number, with its entry. -/
def State.liveCourse (s : State) (wall number : Nat) : Option (Nat × Course) :=
  s.courses.find? fun e => e.2.wall = wall ∧ e.2.number = number ∧ e.2.live

/-- A course put where its number stands in a list ordered by number. -/
def byNumber (e : Nat × Course) : List (Nat × Course) → List (Nat × Course)
  | [] => [e]
  | x :: t => if e.2.number < x.2.number then e :: x :: t else x :: byNumber e t

/-- The held courses of a wall, by course number. -/
def State.coursesOfWall (s : State) (wall : Nat) : List (Nat × Course) :=
  (s.courses.filter fun e => e.2.wall = wall).foldr byNumber []

/-- The live slots among a list of ids, in the list's order. -/
def State.slotsAt (s : State) (ids : List Nat) : List (Nat × Slot) :=
  ids.filterMap fun id => (s.slot id).map fun sl => (id, sl)

/-- The slots of a course in lay order: by run order, then by index (R61). -/
def State.courseSlots (s : State) (c : Course) : List (Nat × Slot) :=
  (c.runIds.getD []).flatMap fun r => s.slotsAt ((s.run r).getD Run.blank).slotIds

/-- R61: the live slots of a wall in lay order. -/
def State.laySlots (s : State) (wall : Nat) : List (Nat × Slot) :=
  (s.coursesOfWall wall).flatMap fun e => s.courseSlots e.2

/-- The run predecessor of a slot of index 1 or more, with its id. -/
def State.predecessor (s : State) (sl : Slot) : Option (Nat × Slot) :=
  if sl.index = 0 then none
  else match (s.runOf sl).slotIds[sl.index - 1]? with
    | none => none
    | some id => (s.slot id).map fun p => (id, p)

/-- R111: a slot is in the arm's hands while it is ISSUED or UNCERTAIN. -/
def SlotState.inHand (st : SlotState) : Bool := st = .issued ∨ st = .uncertain

/-- R111: the slot that is ISSUED or UNCERTAIN, if any. -/
def State.inHand (s : State) : Option (Nat × Slot) := s.slots.find? fun e => e.2.state.inHand

/-- The slot that is ISSUED, if any. -/
def State.issuedSlot (s : State) : Option (Nat × Slot) := s.slots.find? fun e => e.2.state = .issued

/-- R165: the course of a capture, as it now stands. -/
def State.capturedCourse (s : State) (entry : Nat) : Option CapturedCourse :=
  (s.course entry).map fun c => { entry := entry, wall := c.wall, number := c.number }

/-- R176: a level is read as filtered. -/
def Lines.get {α : Type} (l : Lines α) : Line → α
  | .armReady => l.arm | .truckParked => l.parked | .groundShift => l.ground | .windHold => l.wind

/-- One of four things written. -/
def Lines.put {α : Type} (l : Lines α) (line : Line) (v : α) : Lines α :=
  match line with
  | .armReady => { l with arm := v } | .truckParked => { l with parked := v }
  | .groundShift => { l with ground := v } | .windHold => { l with wind := v }

/-! ### Writing records -/

/-- A slot's record changed. -/
def State.updateSlot (s : State) (id : Nat) (f : Slot → Slot) : State := { s with slots := Table.update s.slots id f }
/-- A run's record changed. -/
def State.updateRun (s : State) (r : Nat) (f : Run → Run) : State := { s with runs := Table.update s.runs r f }
/-- A course entry changed. -/
def State.updateCourse (s : State) (e : Nat) (f : Course → Course) : State :=
  { s with courses := Table.update s.courses e f }
/-- A wall's record changed. -/
def State.updateWall (s : State) (w : Nat) (f : Wall → Wall) : State := { s with walls := Table.update s.walls w f }
/-- A feature's record changed. -/
def State.updateFeature (s : State) (k : Nat) (f : Feature → Feature) : State :=
  { s with features := Table.update s.features k f }

/-! ### Ports (R185, R187) -/

/-- The state of a port. -/
def Ports.get (ps : Ports) : Port → PortState
  | .p => ps.p | .a => ps.a | .t => ps.t | .f => ps.f

/-- The state of a port written. -/
def Ports.put (ps : Ports) (port : Port) (v : PortState) : Ports :=
  match port with
  | .p => { ps with p := v } | .a => { ps with a := v } | .t => { ps with t := v } | .f => { ps with f := v }

/-- Whether a response answers the port's outstanding request: every response but an OVERRUN answer does (R185). -/
def Response.closes (r : Response) : Bool := r.reply.answer ≠ .overrun

/-- R91, R191: the queue summary: generation; number of entries; head present and AT_GRIPPER; the head's tag. -/
def State.queueSummary (s : State) : List Byte :=
  [s.generation] ++ u8 s.queue.length ++
    match s.queue with
    | [] => flagsByte [false, false] ++ u8 0 ++ u16 0
    | e :: _ => flagsByte [true, e.position = .atGripper] ++ [e.generation] ++ u16 e.slot

/-- R91: every answer on the feeder port ends with the queue summary. -/
def State.withSummary (s : State) (port : Port) (r : Reply) : Reply :=
  if port = .f then { r with detail := r.detail ++ s.queueSummary } else r

/-- R187: a response is handed to the transmitter of its port. -/
def State.transmit (s : State) (h : Header) (r : Reply) : State :=
  let ps := s.ports.get h.port
  { s with
    ports := s.ports.put h.port
      { ps with transmit := ps.transmit ++ [{ tag := h.tag, code := h.code, reply := s.withSummary h.port r }] } }

/-- R187: there is room for an OVERRUN answer: the transmit queue holds fewer than 4 responses, and one place stays free
for the response to the outstanding request while it has not been handed over. -/
def PortState.overrunFits (ps : PortState) : Bool :=
  ps.transmit.length < 3 || (ps.transmit.length = 3 && ps.transmit.any Response.closes)

/-! ### The arbiter (R186) -/

/-- Whether a waiting request is the planner's. -/
def Waiting.isPlanner (w : Waiting) : Bool := w.request.header.any fun h => h.port = .p

/-- The oldest entry of a kind, and the queue without it. -/
def takeFirst (want : Waiting → Bool) : List Waiting → Option (Waiting × List Waiting)
  | [] => none
  | w :: t => if want w then some (w, t) else (takeFirst want t).map fun r => (r.1, w :: r.2)

/-- R186: the planner's pass count rises by one when another request is chosen. -/
def Waiting.passed (w : Waiting) : Waiting := if w.isPlanner then { w with passes := w.passes + 1 } else w

/-- R186: the request the arbiter chooses, and the queue it leaves: a planner request passed over 4 times; otherwise the
oldest from A, T or F; otherwise the planner's. -/
def choose (q : List Waiting) : Option (Instr × List Waiting) :=
  match takeFirst (fun w => w.isPlanner && decide (4 ≤ w.passes)) q with
  | some (w, rest) => some (w.request, rest)
  | none =>
    match takeFirst (fun w => !w.isPlanner) q with
    | some (w, rest) => some (w.request, rest.map Waiting.passed)
    | none =>
      match q with
      | [] => none
      | w :: rest => some (w.request, rest)

/-- R186: when no request is being served, the arbiter chooses the next. -/
def State.arbitrate (s : State) : State :=
  match s.serving with
  | some _ => s
  | none =>
    match choose s.inbound with
    | none => s
    | some (i, rest) => { s with serving := some i, inbound := rest }

/-! ### The life of a request (R185 to R187) -/

/-- R180: the part is held in a full reset; ports, filters, deadlines and site time stand still. -/
def State.held (s : State) : Bool := s.hold ≠ .running

/-- R185: a request arrives on a port whose outstanding flag is set. It is answered OVERRUN at once, if there is room
(R187), with the tag of the request still outstanding, and the OVERRUN minor fault is reported. -/
def State.overrun (s : State) (h : Header) : State :=
  let ps := s.ports.get h.port
  let answered :=
    if ps.overrunFits then s.transmit h (Reply.plain .overrun [ps.lastTag.getD 0]) else s
  answered.report
    { flag := .overrun, severity := 1, slot := none, course := none, port := some h.port, detail := h.tag.toNat }

/-- R185: a request arrives on a port whose outstanding flag is clear. -/
def State.enqueue (s : State) (i : Instr) (h : Header) : State :=
  { s with
    ports := s.ports.put h.port { s.ports.get h.port with outstanding := true, lastTag := some h.tag }
    inbound := s.inbound ++ [{ request := i, passes := 0 }] }

/-- R185: a request arrives; if none is being served, the arbiter chooses (R186). -/
def State.arrive (s : State) (i : Instr) (h : Header) : State :=
  if (s.ports.get h.port).outstanding then s.overrun h else (s.enqueue i h).arbitrate

/-- R186, R187: the service ends: the response is handed to the transmitter and the arbiter chooses again. -/
def State.conclude (s : State) (h : Header) (r : Reply) : State :=
  { s.transmit h r with serving := none }.arbitrate

/-- Whether a request waits in the inbound queue. -/
def State.isWaiting (s : State) (i : Instr) : Bool := s.inbound.any fun w => w.request = i

/-- The state in which a request command finds itself (log 1): the request that is being served, or waits, is the one that
arrived before; any other arrives now. -/
def State.presented (s : State) (i : Instr) (h : Header) : State :=
  if s.serving = some i || s.isWaiting i then s else s.arrive i h

/-- The service of a request (R186: one event). The request is served if it is the one the arbiter has chosen; if not, it
waits or has been answered OVERRUN, and its body does not run (log 1). A held part serves nothing (R180). -/
def serve (i : Instr) (body : State → Reply × State) (s : State) : Host.Outcome State Fault Refusal :=
  match i.header with
  | none => .next s
  | some h =>
    if s.held then .next s
    else
      let s1 := s.presented i h
      if s1.serving = some i then
        let (r, s2) := body s1
        .next (s2.conclude h r)
      else .next s1

/-- An event inside the part, or on a pin: it happens in one event, and not while a full reset holds the part (R180). -/
def event (effect : State → State) (s : State) : Host.Outcome State Fault Refusal :=
  if s.held then .next s else .next (effect s)

/-! ### Naming records (R62) -/

/-- R62: a request that names a slot: out of range, then not live, then its own conditions. -/
def withSlot (port : Port) (id : Nat) (body : Slot → State → Reply × State) (s : State) : Reply × State :=
  if slotCapacity ≤ id then (Reply.refuse .outOfRange, s)
  else match s.slot id with
    | none => s.refuseNoRecord port (some id) 4 id (u16 id)
    | some sl => body sl s

/-- R1, R24, R150: a request of the planner that names a wall in range: refused while the wall is CLOSED. -/
def withWall (w : Nat) (body : Wall → State → Reply × State) (s : State) : Reply × State :=
  match s.wall w with
  | none => s.refuseNoRecord .p none 1 w []
  | some r => body r s

/-- R62: a request that names a course by wall and number: out of range, then a CLOSED wall or a course not held. -/
def withCourse (w number : Nat) (body : Nat → Course → State → Reply × State) (s : State) : Reply × State :=
  if 3 < w ∨ 255 < number then (Reply.refuse .outOfRange, s)
  else match s.wall w with
    | none => s.refuseNoRecord .p none 1 w []
    | some _ =>
      match s.heldCourse w number with
      | none => s.refuseNoRecord .p none 3 (w * 256 + number) []
      | some (e, c) => body e c s

/-- |v| (00 section 1.6.4). -/
def magnitude (z : Int) : Int := z.natAbs

end Sys2Proof.Machine
end

