-- ==== Sys2Proof/Machine/Walls.lean ====
section
/-! DEFINITION. Walls, openings, brick kinds, joint profiles and the parameters (01 R1 to R20; the parameters of 06, 07, 08,
09 and 10 under R16). -/

namespace Sys2Proof.Machine

/-! ### Chains and heights -/

/-- R7, R10: the features reached from an index through the next fields, at most `fuel` of them. -/
def State.chainFrom (s : State) : Nat → Nat → List (Nat × Feature)
  | 0, _ => []
  | fuel + 1, k =>
    match s.feature k with
    | none => []
    | some f => (k, f) :: s.chainFrom fuel f.next

/-- R2: the opening chain of a wall, in chain order. -/
def State.chain (s : State) (r : Wall) : List (Nat × Feature) := s.chainFrom featureCapacity r.chainHead

/-- The course with the higher number of two, where there are two. -/
def higher (best : Option Course) (c : Course) : Option Course :=
  match best with
  | none => some c
  | some b => if b.number < c.number then some c else some b

/-- R8: the held course of a wall with the highest course number. -/
def State.highestCourse (s : State) (w : Nat) : Option Course :=
  ((s.courses.filter fun e => e.2.wall = w).map Prod.snd).foldl higher none

/-- R8: the built height of a wall. -/
def State.builtHeight (s : State) (w : Nat) (r : Wall) : Int :=
  match s.highestCourse w with
  | some c => s.topOf c
  | none => r.settledTop

/-- Section 1.3: two rectangles share a tenth of both their spans. -/
def Feature.overlaps (f g : Feature) : Bool := f.xa < g.xb ∧ g.xa < f.xb ∧ f.zSill < g.zHead ∧ g.zSill < f.zHead

/-- R15: a held course names the kind. -/
def State.kindInUse (s : State) (k : Nat) : Bool := s.courses.any fun e => e.2.kind = k

/-- R15: a held course names the profile. -/
def State.profileInUse (s : State) (k : Nat) : Bool := s.courses.any fun e => e.2.profile = k

/-! ### Walls (R3 to R6) -/

/-- R3. -/
def wallOpen (w : Nat) (length : Int) (s : State) : Reply × State :=
  if 3 < w ∨ length < 1000 ∨ 200000 < length then (Reply.refuse .outOfRange, s)
  else match s.wall w with
    | some _ => (Reply.refuse .badState, s)
    | none =>
      (Reply.okay,
        { s with
          walls := Table.put s.walls w
            { length := length, chainHead := 0, nextCourse := 0, baseCourse := 0, settledTop := 0 } })

/-- R4: the first condition that refuses WALL CLOSE. -/
def wallCloseRefusal (w : Nat) (r : Wall) (s : State) : Option ReasonCode :=
  if s.courses.any (fun e => e.2.wall = w ∧ e.2.live) then some .liveCourse
  else if s.load.any (fun l => (s.course l.entry).any fun c => c.wall = w) then some .loading
  else if (s.chain r).any (fun e => e.2.lintel.isSome) then some .lintel
  else if s.station.wall = w ∧ (s.station.state = .parked ∨ s.station.state = .draining) then some .station
  else none

/-- R5: the features of a chain go back to the pool. -/
def freeFeatures (features : List (Nat × Feature)) (chain : List (Nat × Feature)) : List (Nat × Feature) :=
  chain.foldl (fun t e => Table.free t e.1) features

/-- R4, R5. -/
def wallClose (w : Nat) (s : State) : Reply × State :=
  if 3 < w then (Reply.refuse .outOfRange, s)
  else withWall w (fun r s =>
    match wallCloseRefusal w r s with
    | some reason => (Reply.refuse reason, s)
    | none =>
      (Reply.okWith (u8 (s.chain r).length),
        { s with features := freeFeatures s.features (s.chain r), walls := Table.free s.walls w })) s

/-- R6: a feature in the answer to WALL READ; 20 bytes. -/
def featureField (e : Nat × Feature) : List Byte :=
  u8 e.1 ++ s24Field e.2.xa ++ s24Field e.2.xb ++ s24Field e.2.zSill ++ s24Field e.2.zHead ++
    optField 6 (fun (l : Lintel) => s24Field l.topZ ++ s24Field l.bearing) e.2.lintel

/-- R6: how many whole features fit in a payload of 64 with the two leading bytes, the 10 of the wall's record and count,
and the byte of the position. -/
def featuresPerRead : Nat := (64 - 13) / 20

/-- R6: the wall's record, the count, the features from the starting position, and, last as R6 lists it, that position.
A CLOSED wall gives the reset values of R2, a count of 0 and no feature. -/
def wallRead (w start : Nat) (s : State) : Reply × State :=
  if 3 < w then (Reply.refuse .outOfRange, s)
  else match s.wall w with
    | none => (Reply.okWith (u8 0 ++ s24Field 0 ++ u8 0 ++ u8 0 ++ s24Field 0 ++ u8 0 ++ u8 start), s)
    | some r =>
      (Reply.okWith (u8 1 ++ s24Field r.length ++ u8 r.nextCourse ++ u8 r.baseCourse ++ s24Field r.settledTop ++
        u8 (s.chain r).length ++ (((s.chain r).drop start).take featuresPerRead).flatMap featureField ++ u8 start), s)

/-! ### Features (R9 to R12) -/

/-- R10: the first feature of a chain before which the new one stands. -/
def followsNew (xa zSill : Int) (e : Nat × Feature) : Bool := xa < e.2.xa ∨ (e.2.xa = xa ∧ zSill < e.2.zSill)

/-- R10, R11: the link to what follows: the wall's chain head, or the next field of the feature before. -/
def State.relink (s : State) (w : Nat) (before : Option Nat) (index : Nat) : State :=
  match before with
  | none => s.updateWall w fun r => { r with chainHead := index }
  | some b => s.updateFeature b fun f => { f with next := index }

/-- R9, R10: the checks and the insertion, for an OPEN wall and spans in range. -/
def featureInsert (w : Nat) (r : Wall) (new : Feature) (s : State) : Reply × State :=
  if new.zSill < s.builtHeight w r then (Reply.refuse .built, s)
  else match (s.chain r).find? fun e => new.overlaps e.2 with
    | some e => (Reply.refusedWith .overlap (u8 e.1), s)
    | none =>
      match (Table.unused s.features 1 featureCapacity).head? with
      | none => (Reply.refuse .noSpace, s)
      | some k =>
        let before := (s.chain r).takeWhile fun e => !followsNew new.xa new.zSill e
        let after := (s.chain r).drop before.length
        let next := (after.head?.map Prod.fst).getD 0
        let linked := s.relink w (before.getLast?.map Prod.fst) k
        (Reply.okWith (u8 k), { linked with features := Table.put linked.features k { new with next := next } })

/-- R1, R9, R10: the z span first, then the wall, then the x span, whose range is the wall's length. -/
def featureAdd (w : Nat) (xa xb zSill zHead : Int) (s : State) : Reply × State :=
  if 3 < w ∨ zSill < 0 ∨ zHead ≤ zSill ∨ 8388607 < zHead then (Reply.refuse .outOfRange, s)
  else withWall w (fun r s =>
    if xa < 0 ∨ xb ≤ xa ∨ r.length < xb then (Reply.refuse .outOfRange, s)
    else featureInsert w r
      { wall := w, xa := xa, xb := xb, zSill := zSill, zHead := zHead, lintel := none, next := 0 } s) s

/-- R1: a request that names a feature: out of range, then free. -/
def withFeature (k : Nat) (body : Feature → State → Reply × State) (s : State) : Reply × State :=
  if k < 1 ∨ 64 < k then (Reply.refuse .outOfRange, s)
  else match s.feature k with
    | none => s.refuseNoRecord .p none 2 k []
    | some f => body f s

/-- R11: the feature before another in its wall's chain; none for the chain head. -/
def State.before (s : State) (r : Wall) (k : Nat) : Option Nat :=
  (((s.chain r).takeWhile fun e => e.1 ≠ k).getLast?).map Prod.fst

/-- The record of a feature's wall; a feature in a chain is on an OPEN wall (R7). -/
def State.wallOf (s : State) (f : Feature) : Wall :=
  (s.wall f.wall).getD { length := 0, chainHead := 0, nextCourse := 0, baseCourse := 0, settledTop := 0 }

/-- R11. -/
def featureDrop (k : Nat) (s : State) : Reply × State :=
  withFeature k (fun f s =>
    let r := s.wallOf f
    if f.zSill < s.builtHeight f.wall r then (Reply.refuse .built, s)
    else if f.lintel.isSome then (Reply.refuse .lintel, s)
    else
      let unlinked := s.relink f.wall (s.before r k) f.next
      (Reply.okay, { unlinked with features := Table.free unlinked.features k })) s

/-- R12: the range of the top z depends on the feature, so it is checked after the feature has been found (log 17). -/
def lintelSet (k : Nat) (topZ bearing : Int) (s : State) : Reply × State :=
  if bearing < 0 ∨ 3000 < bearing then (Reply.refuse .outOfRange, s)
  else withFeature k (fun f s =>
    if topZ < f.zHead ∨ 8388607 < topZ then (Reply.refuse .outOfRange, s)
    else if f.lintel.isSome then (Reply.refuse .lintelSet, s)
    else (Reply.okay, s.updateFeature k fun f => { f with lintel := some { topZ := topZ, bearing := bearing } })) s

/-! ### Kinds and profiles (R13 to R15) -/

/-- R13, R15. -/
def configKind (k : Nat) (length height bedDepth cmin : Int) (lt : Option Int) (s : State) : Reply × State :=
  if 7 < k ∨ length < 1000 ∨ 4000 < length ∨ height < 400 ∨ 1200 < height ∨ bedDepth < 600 ∨ 2500 < bedDepth ∨
      cmin < 300 ∨ length ≤ cmin ∨ lt.getD 30 < 0 ∨ 50 < lt.getD 30 then (Reply.refuse .outOfRange, s)
  else if s.kindInUse k then (Reply.refuse .inUse, s)
  else if cmin % s.params.sawStep ≠ 0 then (Reply.refuse .sawStep, s)
  else
    (Reply.okay,
      { s with
        kinds := Table.put s.kinds k
          { length := length, height := height, bedDepth := bedDepth, cmin := cmin, lt := lt.getD 30 } })

/-- R14, R15. -/
def configProfile (k : Nat) (jn jmin jmax bn : Int) (tOpen : Option Nat) (s : State) : Reply × State :=
  if 3 < k ∨ jmin < 20 ∨ jn < jmin ∨ jmax < jn ∨ 250 < jmax ∨ bn < 20 ∨ 250 < bn ∨
      tOpen.getD 90000 < 10000 ∨ 600000 < tOpen.getD 90000 then (Reply.refuse .outOfRange, s)
  else if s.profileInUse k then (Reply.refuse .inUse, s)
  else if jmax < jn + s.params.sawStep then (Reply.refuse .sawStep, s)
  else
    (Reply.okay,
      { s with
        profiles := Table.put s.profiles k
          { jn := jn, jmin := jmin, jmax := jmax, bn := bn, tOpen := tOpen.getD 90000 } })

/-! ### Parameters (R16 to R18, and the parameters of the other chapters) -/

/-- R16: a parameter written, or refused when its value is outside lo..hi; the answer carries the value now held. -/
def setParam (value lo hi : Int) (write : State → State) (s : State) : Reply × State :=
  if value < lo ∨ hi < value then (Reply.refuse .outOfRange, s) else (Reply.okWith (s32 value), write s)

/-- R17: the first condition that refuses a new saw step. -/
def sawStepRefusal (q : Int) (s : State) : Option Reply :=
  if s.courses ≠ [] then some (Reply.refuse .inUse)
  else match s.kinds.find? fun e => e.2.cmin % q ≠ 0 with
    | some e => some (Reply.refusedWith .sawStep (u8 e.1))
    | none =>
      match s.profiles.find? fun e => e.2.jmax < e.2.jn + q with
      | some e => some (Reply.refusedWith .sawStep (u8 e.1))
      | none => none

/-- R17. -/
def configSawStep (value : Int) (s : State) : Reply × State :=
  if value < 1 ∨ 20 < value then (Reply.refuse .outOfRange, s)
  else match sawStepRefusal value s with
    | some r => (r, s)
    | none => (Reply.okWith (s32 value), { s with params := { s.params with sawStep := value } })

/-- R18. -/
def configMinimumLap (value : Int) (s : State) : Reply × State :=
  setParam value 0 2000 (fun s => { s with params := { s.params with minimumLap := value } }) s

/-- R141: parameters 3 to 7; another number names no tolerance (R16). -/
def configTolerance (parameter : Nat) (value : Int) (s : State) : Reply × State :=
  if parameter = 3 then setParam value 0 200 (fun s => { s with params := { s.params with tolX := value } }) s
  else if parameter = 4 then setParam value 0 200 (fun s => { s with params := { s.params with tolY := value } }) s
  else if parameter = 5 then setParam value 0 200 (fun s => { s with params := { s.params with tolZ := value } }) s
  else if parameter = 6 then setParam value 0 200 (fun s => { s with params := { s.params with tolEnd := value } }) s
  else if parameter = 7 then setParam value 0 200 (fun s => { s with params := { s.params with tolJoint := value } }) s
  else (Reply.refuse .outOfRange, s)

/-- R118. -/
def configSetTime (value : Int) (s : State) : Reply × State :=
  setParam value 0 300000 (fun s => { s with params := { s.params with setTime := value.toNat } }) s

/-- R153. -/
def configDatumSkew (value : Int) (s : State) : Reply × State :=
  setParam value 0 500 (fun s => { s with params := { s.params with maxSkew := value } }) s

/-- R174: off is 0 and on is 1 (R189). -/
def configStrictReferences (value : Int) (s : State) : Reply × State :=
  setParam value 0 1 (fun s => { s with params := { s.params with strictReferences := value = 1 } }) s

/-- The line whose edge sense a parameter number names (R189). -/
def senseLine (parameter : Nat) : Option Line :=
  if parameter = 11 then some .armReady
  else if parameter = 12 then some .truckParked
  else if parameter = 13 then some .groundShift
  else if parameter = 14 then some .windHold
  else none

/-- R178: parameters 11 to 14, 0 rising and 1 falling (R189); a number that names no parameter is refused (R16). -/
def configEdgeSense (parameter : Nat) (value : Int) (s : State) : Reply × State :=
  match senseLine parameter with
  | none => (Reply.refuse .outOfRange, s)
  | some line =>
    setParam value 0 1 (fun s => { s with senses := s.senses.put line (if value = 1 then .falling else .rising) }) s

/-! ### CONFIG READ (R20) -/

/-- R178, R189: the value of a sense. -/
def Sense.paramValue : Sense → Int
  | .rising => 0
  | .falling => 1

/-- R20, R189: the value a parameter holds; none for a number that names no parameter. -/
def State.paramValue (s : State) (parameter : Nat) : Option Int :=
  if parameter = 1 then some s.params.sawStep
  else if parameter = 2 then some s.params.minimumLap
  else if parameter = 3 then some s.params.tolX
  else if parameter = 4 then some s.params.tolY
  else if parameter = 5 then some s.params.tolZ
  else if parameter = 6 then some s.params.tolEnd
  else if parameter = 7 then some s.params.tolJoint
  else if parameter = 8 then some s.params.setTime
  else if parameter = 9 then some s.params.maxSkew
  else if parameter = 10 then some (if s.params.strictReferences then 1 else 0)
  else (senseLine parameter).map fun line => (s.senses.get line).paramValue

/-- R20. The sampled strap stands in the answer for the saw step alone, and is left off in every other (DESIGN CHOICE, log
24). An item whose table byte is none of 1, 2 and 3 is refused with OUT_OF_RANGE (DESIGN CHOICE, log 25). -/
def configRead (table number : Nat) (s : State) : Reply × State :=
  if table = 1 then
    if 7 < number then (Reply.refuse .outOfRange, s)
    else match Table.find s.kinds number with
      | none => s.refuseNoRecord .p none 2 (100 + number) []
      | some k =>
        (Reply.okWith (yesNo true ++ s24Field k.length ++ s24Field k.height ++ s24Field k.bedDepth ++ s24Field k.cmin ++
          s24Field k.lt ++ yesNo (s.kindInUse number)), s)
  else if table = 2 then
    if 3 < number then (Reply.refuse .outOfRange, s)
    else match Table.find s.profiles number with
      | none => s.refuseNoRecord .p none 2 (200 + number) []
      | some k =>
        (Reply.okWith (yesNo true ++ jointField k.jn ++ jointField k.jmin ++ jointField k.jmax ++ s24Field k.bn ++
          u32 k.tOpen ++ yesNo (s.profileInUse number)), s)
  else if table = 3 then
    match s.paramValue number with
    | none => (Reply.refuse .outOfRange, s)
    | some v => (Reply.okWith (s32 v ++ if number = 1 then yesNo s.sawFitted else []), s)
  else (Reply.refuse .outOfRange, s)

/-! ### The meanings -/

/-- WALL_OPEN, R3. -/
def execWallOpen (tag : Byte) (wall : Nat) (length : Int) : State → Host.Outcome State Fault Refusal :=
  serve (.wallOpen tag wall length) (wallOpen wall length)

/-- WALL_CLOSE, R5. -/
def execWallClose (tag : Byte) (wall : Nat) : State → Host.Outcome State Fault Refusal :=
  serve (.wallClose tag wall) (wallClose wall)

/-- WALL_READ, R6. -/
def execWallRead (tag : Byte) (wall start : Nat) : State → Host.Outcome State Fault Refusal :=
  serve (.wallRead tag wall start) (wallRead wall start)

/-- FEATURE_ADD, R10. -/
def execFeatureAdd (tag : Byte) (wall : Nat) (xa xb zSill zHead : Int) : State → Host.Outcome State Fault Refusal :=
  serve (.featureAdd tag wall xa xb zSill zHead) (featureAdd wall xa xb zSill zHead)

/-- FEATURE_DROP, R11. -/
def execFeatureDrop (tag : Byte) (feature : Nat) : State → Host.Outcome State Fault Refusal :=
  serve (.featureDrop tag feature) (featureDrop feature)

/-- LINTEL_SET, R12. -/
def execLintelSet (tag : Byte) (feature : Nat) (topZ bearing : Int) : State → Host.Outcome State Fault Refusal :=
  serve (.lintelSet tag feature topZ bearing) (lintelSet feature topZ bearing)

/-- CONFIG_KIND, R13. -/
def execConfigKind (tag : Byte) (kind : Nat) (length height bedDepth cmin : Int) (lt : Option Int) :
    State → Host.Outcome State Fault Refusal :=
  serve (.configKind tag kind length height bedDepth cmin lt) (configKind kind length height bedDepth cmin lt)

/-- CONFIG_PROFILE, R14. -/
def execConfigProfile (tag : Byte) (profile : Nat) (jn jmin jmax bn : Int) (tOpen : Option Nat) :
    State → Host.Outcome State Fault Refusal :=
  serve (.configProfile tag profile jn jmin jmax bn tOpen) (configProfile profile jn jmin jmax bn tOpen)

/-- CONFIG_PARAM_SAW_STEP, R17. -/
def execConfigParamSawStep (tag : Byte) (value : Int) : State → Host.Outcome State Fault Refusal :=
  serve (.configParamSawStep tag value) (configSawStep value)

/-- CONFIG_PARAM_MINIMUM_LAP, R18. -/
def execConfigParamMinimumLap (tag : Byte) (value : Int) : State → Host.Outcome State Fault Refusal :=
  serve (.configParamMinimumLap tag value) (configMinimumLap value)

/-- CONFIG_PARAM_TOLERANCE, R141. -/
def execConfigParamTolerance (tag : Byte) (parameter : Nat) (value : Int) : State → Host.Outcome State Fault Refusal :=
  serve (.configParamTolerance tag parameter value) (configTolerance parameter value)

/-- CONFIG_PARAM_SET_TIME, R118. -/
def execConfigParamSetTime (tag : Byte) (value : Int) : State → Host.Outcome State Fault Refusal :=
  serve (.configParamSetTime tag value) (configSetTime value)

/-- CONFIG_PARAM_DATUM_SKEW, R153. -/
def execConfigParamDatumSkew (tag : Byte) (value : Int) : State → Host.Outcome State Fault Refusal :=
  serve (.configParamDatumSkew tag value) (configDatumSkew value)

/-- CONFIG_PARAM_STRICT_REFERENCES, R174. -/
def execConfigParamStrictReferences (tag : Byte) (value : Int) : State → Host.Outcome State Fault Refusal :=
  serve (.configParamStrictReferences tag value) (configStrictReferences value)

/-- CONFIG_PARAM_EDGE_SENSE, R178. -/
def execConfigParamEdgeSense (tag : Byte) (parameter : Nat) (value : Int) : State → Host.Outcome State Fault Refusal :=
  serve (.configParamEdgeSense tag parameter value) (configEdgeSense parameter value)

/-- CONFIG_READ, R20. -/
def execConfigRead (tag : Byte) (table number : Nat) : State → Host.Outcome State Fault Refusal :=
  serve (.configRead tag table number) (configRead table number)

end Sys2Proof.Machine
end

