-- ==== Sys2Proof/Machine/Commit.lean ====
section
/-! DEFINITION. The commit of a course load: its seven checks, the run solve, the supports, the lap and the allocation
(02 R30 to R45, R19). A refusal is the answer of the last RUN ENTRY. -/

namespace Sys2Proof.Machine

/-- A slot as the run solve plans it (R38), with what the support check finds (R42, R43). -/
structure SlotPlan where
  index : Nat
  left : Int
  length : Int
  joint : Option Int
  closer : Bool
  supports : List Nat
  lintelSupported : Bool
  deriving DecidableEq, Repr

/-- A run as the run solve plans it. -/
structure RunPlan where
  order : Nat
  start : Int
  stop : Int
  closerLength : Option Int
  slots : List SlotPlan
  deriving DecidableEq, Repr

/-! ### Checks 1 to 3 (R31, R32) -/

/-- R31: check 1. The answer carries the number needed, the number free and the entry type 1, run (R33, R189). -/
def checkRunEntries (s : State) (runs : List (Int × Int)) : Option Reply :=
  let available := runCapacity - s.runs.length
  if available < runs.length then some (Reply.refusedWith .noSpace (u16 runs.length ++ u16 available ++ u8 1)) else none

/-- R31: check 2, from run order `i`, with the end of the run before it. -/
def checkRunOrder (wallLength : Int) (i : Nat) (previousEnd : Option Int) : List (Int × Int) → Option Reply
  | [] => none
  | (start, stop) :: rest =>
    if start < 0 ∨ wallLength < stop ∨ stop ≤ start then some (Reply.refusedWith .outOfRange (u8 i))
    else if previousEnd.any fun e => start < e then some (Reply.refusedWith .runsOverlap (u8 i))
    else checkRunOrder wallLength (i + 1) (some stop) rest

/-- R32: a run of a course crosses a feature. -/
def crosses (start stop base top : Int) (f : Feature) : Bool :=
  start < f.xb ∧ f.xa < stop ∧ base < f.zHead ∧ f.zSill < top

/-- R32: check 3, from run order `i`. -/
def checkOpenings (chain : List (Nat × Feature)) (base top : Int) (i : Nat) : List (Int × Int) → Option Reply
  | [] => none
  | (start, stop) :: rest =>
    match chain.find? fun e => crosses start stop base top e.2 with
    | some e => some (Reply.refusedWith .crossesOpening (u8 i ++ u8 e.1))
    | none => checkOpenings chain base top (i + 1) rest

/-! ### The run solve (R34 to R38) -/

/-- R34, R35: the slot count n and the planned closer length, if the run ends in a closer. -/
def solveCase (k : Kind) (p : Profile) (q d : Int) : Except ReasonCode (Int × Option Int) :=
  let f := (d + p.jn) / (k.length + p.jn)
  if f = 0 then
    if k.cmin ≤ d then .ok (1, some (q * (d / q))) else .error .runTooShort
  else
    let r := d - f * k.length - (f - 1) * p.jn
    if r = 0 then .ok (f, none)
    else if p.jn + k.cmin ≤ r then .ok (f + 1, some (q * ((r - p.jn) / q)))
    else if 0 < r ∧ r < p.jn + k.cmin ∧ 2 ≤ f ∧ r ≤ (f - 1) * (p.jmax - p.jn) then .ok (f, none)
    else if p.jn + k.cmin - r ≤ f * (p.jn - p.jmin) then .ok (f + 1, some k.cmin)
    else .error .runUnsolvable

/-- R37: the sum of the planned lengths of a run's n slots. -/
def bricksLength (k : Kind) (n : Int) (closer : Option Int) : Int :=
  match closer with
  | none => n * k.length
  | some c => (n - 1) * k.length + c

/-- R37: the planned joint on the left of the slot with index i ≥ 1. -/
def jointAt (b e : Int) (i : Nat) : Int := if (i : Int) ≤ e then b + 1 else b

/-- R38: the slots of a run from index i, `left` of them, the first at the planned left face x. -/
def planSlots (k : Kind) (closer : Option Int) (b e : Int) (i : Nat) : (left : Nat) → (x : Int) → List SlotPlan
  | 0, _ => []
  | m + 1, x =>
    let length := if m = 0 then closer.getD k.length else k.length
    { index := i, left := x, length := length, joint := if i = 0 then none else some (jointAt b e i)
      closer := m = 0 && closer.isSome, supports := [], lintelSupported := false } ::
      planSlots k closer b e (i + 1) m (x + length + jointAt b e (i + 1))

/-- R34 to R38: the solve of one run; a refusal carries the run order. -/
def solveRun (k : Kind) (p : Profile) (q : Int) (saw : Bool) (order : Nat) (start stop : Int) : Except Reply RunPlan :=
  let d := stop - start
  match solveCase k p q d with
  | .error reason => .error (Reply.refusedWith reason (u8 order))
  | .ok (n, closer) =>
    if 96 < n then .error (Reply.refusedWith .runTooLong (u8 order))
    else if closer.isSome ∧ saw = false then .error (Reply.refusedWith .noSaw (u8 order))
    else
      let j := n - 1
      let t := d - bricksLength k n closer
      let b := t / j
      let e := t - b * j
      if n ≠ 1 ∧ (b < p.jmin ∨ p.jmax < (if 0 < e then b + 1 else b)) then
        .error (Reply.refusedWith .runUnsolvable (u8 order))
      else
        .ok { order := order, start := start, stop := stop, closerLength := closer
              slots := planSlots k closer b e 0 n.toNat start }

/-- Check 4: the runs in run order; the first refusal ends the commit. -/
def solveRuns (k : Kind) (p : Profile) (q : Int) (saw : Bool) (order : Nat) :
    List (Int × Int) → Except Reply (List RunPlan)
  | [] => .ok []
  | (start, stop) :: rest =>
    match solveRun k p q saw order start stop with
    | .error r => .error r
    | .ok plan =>
      match solveRuns k p q saw (order + 1) rest with
      | .error r => .error r
      | .ok plans => .ok (plan :: plans)

/-- R33: the total of the runs' slot counts. -/
def totalSlots (plans : List RunPlan) : Nat := (plans.map fun p => p.slots.length).sum

/-- R33: check 5. The answer carries the total needed, the number free and the entry type 2, slot. -/
def checkSlotEntries (s : State) (plans : List RunPlan) : Option Reply :=
  let available := slotCapacity - s.slots.length
  if available < totalSlots plans then
    some (Reply.refusedWith .noSpace (u16 (totalSlots plans) ++ u16 available ++ u8 2))
  else none

/-! ### Supports (R42 to R44) -/

/-- A list of half-open spans with a span taken out of each; empty pieces are dropped. -/
def cutSpan (spans : List (Int × Int)) (c : Int × Int) : List (Int × Int) :=
  spans.flatMap fun a => [(a.1, min a.2 c.1), (max a.1 c.2, a.2)].filter fun p => p.1 < p.2

/-- A list of half-open spans with every span of another list taken out. -/
def cutSpans (spans : List (Int × Int)) (cuts : List (Int × Int)) : List (Int × Int) := cuts.foldl cutSpan spans

/-- What the course below offers a new slot: its slots with their planned spans, in ascending planned left face; the spans
it covers; and the spans borne by the lintels that qualify (R42, R43). -/
structure Bed where
  slots : List (Nat × (Int × Int))
  covered : List (Int × Int)
  lintels : List (Int × Int)
  deriving DecidableEq, Repr

/-- R43: a run covers from its S to the planned right face of its last slot. -/
def State.coveredBy (s : State) (r : Run) : Int × Int :=
  (r.start, (((s.slotsAt r.slotIds).getLast?).map fun e => s.plannedRight e.2).getD r.start)

/-- R43: the lintels that qualify over a course top bear the closed range of R43, here half-open in tenths. -/
def lintelSpans (chain : List (Nat × Feature)) (top tolZ : Int) : List (Int × Int) :=
  chain.filterMap fun e =>
    match e.2.lintel with
    | none => none
    | some l =>
      if magnitude (l.topZ - top) ≤ tolZ then some (e.2.xa - l.bearing, e.2.xb + l.bearing + 1) else none

/-- R42, R43: the bed that a live course below gives. -/
def State.bedOn (s : State) (r : Wall) (below : Course) : Bed :=
  { slots := (s.courseSlots below).map fun e => (e.1, (e.2.plannedLeft, s.plannedRight e.2))
    covered := (below.runIds.getD []).map fun id => s.coveredBy ((s.run id).getD Run.blank)
    lintels := lintelSpans (s.chain r) (s.topOf below) s.params.tolZ }

/-- R42: two spans share at least one tenth. -/
def sharesTenth (a b : Int × Int) : Bool := max a.1 b.1 < min a.2 b.2

/-- R42, R43: one new slot, tested under R42 and then under R43. -/
def supportSlot (bed : Bed) (order : Nat) (p : SlotPlan) : Except Reply SlotPlan :=
  let span := (p.left, p.left + p.length)
  let under := (bed.slots.filter fun e => sharesTenth span e.2).map Prod.fst
  if 4 < under.length then .error (Reply.refusedWith .supportOverflow (u8 order ++ u8 p.index))
  else
    let bare := cutSpans [span] bed.covered
    if bare = [] then .ok { p with supports := under, lintelSupported := false }
    else if cutSpans bare bed.lintels = [] then .ok { p with supports := under, lintelSupported := true }
    else .error (Reply.refusedWith .unsupported (u8 order ++ u8 p.index))

/-- Check 6, for the slots of one run. -/
def supportSlots (bed : Bed) (order : Nat) : List SlotPlan → Except Reply (List SlotPlan)
  | [] => .ok []
  | p :: rest =>
    match supportSlot bed order p with
    | .error r => .error r
    | .ok q =>
      match supportSlots bed order rest with
      | .error r => .error r
      | .ok qs => .ok (q :: qs)

/-- Check 6, for the runs in run order. -/
def supportRuns (bed : Bed) : List RunPlan → Except Reply (List RunPlan)
  | [] => .ok []
  | p :: rest =>
    match supportSlots bed p.order p.slots with
    | .error r => .error r
    | .ok slots =>
      match supportRuns bed rest with
      | .error r => .error r
      | .ok plans => .ok ({ p with slots := slots } :: plans)

/-! ### Lap (R45) -/

/-- R45: the centre of the joint between a right face and a left face. -/
def centre (right left : Int) : Int := (right + left) / 2

/-- R45: the head-joint centres of a run, from the spans of its slots in index order. -/
def centres : List (Int × Int) → List Int
  | a :: b :: rest => centre a.2 b.1 :: centres (b :: rest)
  | _ => []

/-- R45: the head-joint centres of a live course. -/
def State.centresOf (s : State) (c : Course) : List Int :=
  (c.runIds.getD []).flatMap fun id =>
    centres ((s.slotsAt ((s.run id).getD Run.blank).slotIds).map fun e => (e.2.plannedLeft, s.plannedRight e.2))

/-- R45: the joints of a run from the one whose right-hand slot has the index given: the first too near a centre below. -/
def shortLap (minimumLap : Int) (below : List Int) (index : Nat) : List Int → Option Nat
  | [] => none
  | c :: rest =>
    if below.any fun b => magnitude (c - b) < minimumLap then some index
    else shortLap minimumLap below (index + 1) rest

/-- Check 7, in lay order. -/
def checkLap (minimumLap : Int) (below : List Int) : List RunPlan → Option Reply
  | [] => none
  | p :: rest =>
    match shortLap minimumLap below 1 (centres (p.slots.map fun q => (q.left, q.left + q.length))) with
    | some index => some (Reply.refusedWith .lapShort (u8 p.order ++ u8 index))
    | none => checkLap minimumLap below rest

/-! ### The commit (R30, R39 to R41) -/

/-- R44: the live course below a course, if there is one. -/
def State.courseBelow (s : State) (c : Course) : Option Course :=
  if c.number = 0 then none else (s.liveCourse c.wall (c.number - 1)).map Prod.snd

/-- R42 to R45: checks 6 and 7, which are made only over a live course below (R44). -/
def bedChecks (s : State) (r : Wall) (c : Course) (plans : List RunPlan) : Except Reply (List RunPlan) :=
  match s.courseBelow c with
  | none => .ok plans
  | some below =>
    match supportRuns (s.bedOn r below) plans with
    | .error e => .error e
    | .ok supported =>
      match checkLap s.params.minimumLap (s.centresOf below) supported with
      | some e => .error e
      | none => .ok supported

/-- R30: the seven checks in order, for the course of the load and the runs received. -/
def commitChecks (s : State) (r : Wall) (c : Course) (runs : List (Int × Int)) : Except Reply (List RunPlan) :=
  match checkRunEntries s runs with
  | some e => .error e
  | none =>
    match checkRunOrder r.length 0 none runs with
    | some e => .error e
    | none =>
      match checkOpenings (s.chain r) c.baseZ (s.topOf c) 0 runs with
      | some e => .error e
      | none =>
        match solveRuns (s.kind c.kind) (s.profile c.profile) s.params.sawStep s.sawFitted 0 runs with
        | .error e => .error e
        | .ok plans =>
          match checkSlotEntries s plans with
          | some e => .error e
          | none => bedChecks s r c plans

/-- R41: the record of a new slot. -/
def SlotPlan.record (p : SlotPlan) (course run kind : Nat) : Slot :=
  { course := course, run := run, index := p.index, kind := kind, closer := p.closer, plannedLeft := p.left
    plannedJoint := p.joint, supports := p.supports, lintelSupported := p.lintelSupported, state := .planned
    cutLength := none, generation := none, gauged := none, targetLeft := none, targetJoint := none, placedTime := none
    measurement := none, rejectReasons := [], reapply := false, predicted := false, clamped := false, cold := false
    accepted := false }

/-- R40: the record of a new run. -/
def RunPlan.record (p : RunPlan) (course : Nat) (ids : List Nat) : Run :=
  { course := course, order := p.order, start := p.start, stop := p.stop, n := p.slots.length, firstSlot := ids.headD 0
    slotIds := ids, closerLength := p.closerLength, closerCommitted := false, openJoint := none }

/-- R39: slot entries taken in index order, the lowest free ids first. -/
def putSlots (course run kind : Nat) : List SlotPlan → List Nat → List (Nat × Slot) → List (Nat × Slot)
  | p :: ps, id :: ids, t => putSlots course run kind ps ids (Table.put t id (p.record course run kind))
  | _, _, t => t

/-- R39: the runs of a course allocated in run order, with the run ids and slot ids that are free. -/
def allocateRuns (entry kind : Nat) : List RunPlan → List Nat → List Nat → State → State
  | p :: ps, run :: runs, ids, s =>
    let mine := ids.take p.slots.length
    allocateRuns entry kind ps runs (ids.drop p.slots.length)
      { s with
        runs := Table.put s.runs run (p.record entry mine)
        slots := putSlots entry run kind p.slots mine s.slots }
  | _, _, _, s => s

/-- R39: the allocation of a course whose seven checks have passed. -/
def allocate (s : State) (entry : Nat) (c : Course) (plans : List RunPlan) : Reply × State :=
  let runs := (Table.unused s.runs 0 runCapacity).take plans.length
  let slots := (Table.unused s.slots 0 slotCapacity).take (totalSlots plans)
  let s1 := allocateRuns entry c.kind plans runs slots s
  let s2 := s1.updateCourse entry fun c => { c with state := .active, runIds := some runs }
  let s3 := s2.updateWall c.wall fun r => { r with nextCourse := r.nextCourse + 1 }
  (Reply.okWith (u8 c.number ++ u8 entry ++ u8 plans.length ++ u16 (totalSlots plans)), { s3 with load := none })

/-- R27, R28, R29, R30: the load is closed without a course: its entry returns to EMPTY. -/
def State.dropLoad (s : State) : State :=
  match s.load with
  | none => s
  | some l => { s with courses := Table.free s.courses l.entry, load := none }

/-- R30: the commit. The entry's wall is OPEN while it loads (R4); a wall that is not listed reads as length 0 (log 8). -/
def commit (s : State) (entry : Nat) (runs : List (Int × Int)) : Reply × State :=
  let c := (s.course entry).getD Course.blank
  let r := (s.wall c.wall).getD { length := 0, chainHead := 0, nextCourse := 0, baseCourse := 0, settledTop := 0 }
  match commitChecks s r c runs with
  | .error refusal => (refusal, s.dropLoad)
  | .ok plans => allocate s entry c plans

end Sys2Proof.Machine
end

