-- ==== Sys2Proof/Machine/Courses.lean ====
section
/-! DEFINITION. Course loading and retirement (02 R21 to R29, R46 to R49) and COURSE READ (03 R64). -/

namespace Sys2Proof.Machine

/-- R25, R26, R28: the inactivity interval of a load, in ms. -/
def loadInterval : Nat := 5000

/-- R22: the base z of the next course of a wall. -/
def State.nextBaseZ (s : State) (w : Nat) (r : Wall) (profile : Nat) : Int :=
  let bed := (s.profile profile).bn
  if r.nextCourse = 0 then bed
  else match s.liveCourse w (r.nextCourse - 1) with
    | some e => s.topOf e.2 + bed
    | none => r.settledTop + bed

/-- R24, R25. -/
def courseBegin (w kind profile runCount : Nat) (s : State) : Reply × State :=
  if 3 < w ∨ 7 < kind ∨ 3 < profile ∨ runCount < 1 ∨ 8 < runCount then (Reply.refuse .outOfRange, s)
  else withWall w (fun r s =>
    if s.load.isSome then (Reply.refuse .busy, s)
    else if (Table.find s.kinds kind).isNone then (Reply.refusedWith .undefined (u8 kind), s)
    else if (Table.find s.profiles profile).isNone then (Reply.refusedWith .undefined (u8 profile), s)
    else if r.nextCourse = 255 then (Reply.refuse .courseLimit, s)
    else match (Table.unused s.courses 0 courseCapacity).head? with
      | none => (Reply.refuse .noSpace, s)
      | some entry =>
        let base := s.nextBaseZ w r profile
        (Reply.okWith (u8 r.nextCourse ++ u8 entry ++ s24Field base),
          { s with
            courses := Table.put s.courses entry
              { state := .loading, wall := w, number := r.nextCourse, kind := kind, profile := profile, baseZ := base
                runCount := runCount, runIds := none }
            load := some
              { entry := entry, expected := runCount, received := []
                deadline := s.siteTime + BitVec.ofNat 32 loadInterval } })) s

/-- R26. -/
def runEntry (start stop : Int) (s : State) : Reply × State :=
  match s.load with
  | none => (Reply.refuse .noLoad, s)
  | some l =>
    let received := l.received ++ [(start, stop)]
    let s1 : State :=
      { s with
        load := some
          { l with
            expected := l.expected - 1, received := received
            deadline := s.siteTime + BitVec.ofNat 32 loadInterval } }
    if 1 < l.expected then (Reply.okWith (u8 l.received.length ++ u8 (l.expected - 1)), s1)
    else commit s1 l.entry received

/-- R27. -/
def courseAbandon (s : State) : Reply × State :=
  match s.load with
  | none => (Reply.refuse .noLoad, s)
  | some l => (Reply.okWith (u8 ((s.course l.entry).getD Course.blank).number), s.dropLoad)

/-- R28: 5 000 ms have elapsed since the deadline was last started. -/
def Load.due (l : Load) (now : Time) : Bool :=
  loadInterval ≤ elapsed now (l.deadline - BitVec.ofNat 32 loadInterval)

/-- R28: the expiry; no effect while no load is open or its deadline has not passed (log 4). -/
def loadTimeout (s : State) : State :=
  match s.load with
  | none => s
  | some l =>
    if l.due s.siteTime then
      s.dropLoad.report
        { flag := .loadTimeout, severity := 2, slot := none, course := s.capturedCourse l.entry, port := some .p
          detail := l.received.length }
    else s

/-! ### Retirement (R47 to R49) -/

/-- R47, R118: the milliseconds a slot still has to stand, 0 when it is set. -/
def State.stillSetting (s : State) (sl : Slot) : Nat :=
  match sl.placedTime with
  | none => 0
  | some t => s.params.setTime - elapsed s.siteTime t

/-- The largest of a list of numbers, 0 for none. -/
def largest (l : List Nat) : Nat := l.foldl max 0

/-- R49: a slot of the course above without its references to retired slots. -/
def Slot.withoutSupports (retired : List Nat) (sl : Slot) : Slot :=
  { sl with supports := sl.supports.filter fun id => !retired.contains id }

/-- R49: the slots of one course entry without their references to retired slots. -/
def dropSupports (above : Nat) (retired : List Nat) (slots : List (Nat × Slot)) : List (Nat × Slot) :=
  slots.map fun e => if e.2.course = above then (e.1, e.2.withoutSupports retired) else e

/-- R48, R49: the course's own records are freed, and the wall and the course above are updated. -/
def retire (s : State) (entry : Nat) (c : Course) : State :=
  let retired := (s.courseSlots c).map Prod.fst
  let slots := s.slots.filter fun e => !retired.contains e.1
  let runs := s.runs.filter fun e => !(c.runIds.getD []).contains e.1
  let slots' :=
    match s.liveCourse c.wall (c.number + 1) with
    | none => slots
    | some above => dropSupports above.1 retired slots
  { s with
    slots := slots', runs := runs, courses := Table.free s.courses entry
    walls := Table.update s.walls c.wall fun r => { r with settledTop := s.topOf c, baseCourse := c.number + 1 } }

/-- R47, R48. -/
def courseRetire (w number : Nat) (s : State) : Reply × State :=
  withCourse w number (fun entry c s =>
    if c.state ≠ .complete then (Reply.refuse .notComplete, s)
    else
      let remaining := largest ((s.courseSlots c).map fun e => s.stillSetting e.2)
      if 0 < remaining then (Reply.refusedWith .setting (u32 remaining), s)
      else if (s.wall w).any fun r => r.baseCourse ≠ number then (Reply.refuse .notLowest, s)
      else (Reply.okWith (u8 (number + 1) ++ s24Field (s.topOf c)), retire s entry c)) s

/-! ### COURSE READ (R64) -/

/-- R64: the milliseconds remaining to an open joint's deadline (log 4). -/
def State.jointRemaining (s : State) (tOpen : Nat) (j : OpenJoint) : Nat :=
  tOpen - elapsed s.siteTime (j.deadline - BitVec.ofNat 32 tOpen)

/-- R64: a run in the answer to COURSE READ. -/
def State.runField (s : State) (c : Course) (id : Nat) (r : Run) : List Byte :=
  u8 id ++ s24Field r.start ++ s24Field r.stop ++ u16 r.n ++ u16 r.firstSlot ++ optField 2 brickField r.closerLength ++
    yesNo r.closerCommitted ++
    optField 5 (fun (j : OpenJoint) => u8 j.index ++ u32 (s.jointRemaining (s.profile c.profile).tOpen j)) r.openJoint

/-- R64: the count of a course's slots in a state, in 2 bytes. -/
def State.countField (s : State) (c : Course) (st : SlotState) : List Byte :=
  u16 ((s.courseSlots c).countP fun e => e.2.state = st)

/-- R64: the run id list, present or absent. -/
def runIdsField (c : Course) : List Byte := optField c.runCount (fun (ids : List Nat) => ids.flatMap u8) c.runIds

/-- R64: the course's own fields and its seven counts. -/
def State.courseField (s : State) (entry : Nat) (c : Course) : List Byte :=
  u8 entry ++ u8 c.state.value ++ u8 c.kind ++ u8 c.profile ++ s24Field c.baseZ ++ s24Field (s.topOf c) ++
    u8 c.runCount ++ runIdsField c ++
    ([.planned, .fed, .issued, .uncertain, .placed, .verified, .rejected] : List SlotState).flatMap (s.countField c)

/-- R64: the number of runs received so far, for a LOADING course; in the answer for a live course it is left off, with no
presence byte (DESIGN CHOICE, log 24). -/
def State.receivedField (s : State) (c : Course) : List Byte :=
  if c.live then [] else u8 ((s.load.map fun l => l.received.length).getD 0)

/-- R64, after R62. The run's record stands in the answer when the request names a run, and is left off, with no presence
byte, when it does not (DESIGN CHOICE, log 24). -/
def courseRead (w number : Nat) (order : Option Nat) (s : State) : Reply × State :=
  withCourse w number (fun entry c s =>
    match order with
    | none => (Reply.okWith (s.courseField entry c ++ s.receivedField c), s)
    | some o =>
      if c.runCount ≤ o ∨ !c.live then (Reply.refuse .outOfRange, s)
      else
        let id := (c.runIds.getD [])[o]?.getD 0
        (Reply.okWith (s.courseField entry c ++ s.receivedField c ++
          s.runField c id ((s.run id).getD Run.blank)), s)) s

/-! ### Completion (R46) -/

/-- R46: when a slot of an ACTIVE course has become VERIFIED, the course is COMPLETE if all its slots are. -/
def State.completionTest (s : State) (entry : Nat) : State :=
  match s.course entry with
  | none => s
  | some c =>
    if c.state = .active ∧ (s.courseSlots c).all (fun e => e.2.state = .verified) then
      (s.updateCourse entry fun c => { c with state := .complete }).raise .courseComplete
    else s

/-! ### The meanings -/

/-- COURSE_BEGIN, R25. -/
def execCourseBegin (tag : Byte) (wall kind profile runCount : Nat) : State → Host.Outcome State Fault Refusal :=
  serve (.courseBegin tag wall kind profile runCount) (courseBegin wall kind profile runCount)

/-- RUN_ENTRY, R26. -/
def execRunEntry (tag : Byte) (start stop : Int) : State → Host.Outcome State Fault Refusal :=
  serve (.runEntry tag start stop) (runEntry start stop)

/-- COURSE_ABANDON, R27. -/
def execCourseAbandon (tag : Byte) : State → Host.Outcome State Fault Refusal :=
  serve (.courseAbandon tag) courseAbandon

/-- COURSE_RETIRE, R48. -/
def execCourseRetire (tag : Byte) (wall number : Nat) : State → Host.Outcome State Fault Refusal :=
  serve (.courseRetire tag wall number) (courseRetire wall number)

/-- COURSE_READ, R64. -/
def execCourseRead (tag : Byte) (wall number : Nat) (order : Option Nat) : State → Host.Outcome State Fault Refusal :=
  serve (.courseRead tag wall number order) (courseRead wall number order)

/-- LOAD_INACTIVITY_TIMEOUT, R28. -/
def execLoadInactivityTimeout : State → Host.Outcome State Fault Refusal := event loadTimeout

end Sys2Proof.Machine
end

