-- ==== Sys2Proof/Machine/Solver.lean ====
section
/-! DEFINITION. The Joint Solver: known faces, the issue-time correction, the closer cut commit and RUN SLACK (04 R69 to
R87). It keeps no state; its arithmetic is exact (R69). -/

namespace Sys2Proof.Machine

/-- R71: the states in which a slot has a known right face. -/
def SlotState.hasFace (st : SlotState) : Bool := st ≠ .planned ∧ st ≠ .fed

/-- R71: the known right face of a slot, and whether it is measured. -/
def State.knownFace (s : State) (sl : Slot) : Option (Int × Bool) :=
  if sl.state.hasFace then
    match sl.measurement with
    | some m => some (m.xRight, true)
    | none => some (s.targetRight sl, false)
  else none

/-- R78: E limited to the range of the Solver. -/
def limitFace (e : Int) : Int := if 7884357 < e then 7884357 else if e < -7888608 then -7888608 else e

/-- R74: the sum of the current lengths of the slots of a run from index k on. -/
def State.brem (s : State) (r : Run) (k : Nat) : Int :=
  ((s.slotsAt (r.slotIds.drop k)).map fun e => s.currentLength e.2).sum

/-- R74: G, the length left for the joints between a face and the end of the run. -/
def State.gap (s : State) (r : Run) (k : Nat) (e : Int) : Int := r.stop - e - s.brem r k

/-- R75: G shared over jr joints, rounded to nearest. -/
def shareJoint (g jr : Int) : Int := (2 * g + jr) / (2 * jr)

/-- 00 section 1.6.4: a value clamped to [lo, hi]. -/
def clamp (lo hi v : Int) : Int := if v < lo then lo else if hi < v then hi else v

/-- R76: what the issue-time correction yields. -/
structure Correction where
  targetLeft : Int
  targetJoint : Option Int
  predicted : Bool
  clamped : Bool
  deriving DecidableEq, Repr

/-- R73: the reference face of a slot of index 1 or more: the known right face of its run predecessor. A predecessor with
no known face gives the run's start, predicted (log 8: NEXT has found it PLACED or VERIFIED). -/
def State.reference (s : State) (sl : Slot) : Int × Bool :=
  match s.predecessor sl with
  | none => ((s.runOf sl).start, false)
  | some p => (s.knownFace p.2).getD ((s.runOf sl).start, false)

/-- R72 to R78: the correction for the slot that NEXT is about to issue. -/
def State.correction (s : State) (sl : Slot) : Correction :=
  let r := s.runOf sl
  if sl.index = 0 then { targetLeft := r.start, targetJoint := none, predicted := false, clamped := false }
  else
    let p := s.profileOf sl
    let face := s.reference sl
    let e := limitFace face.1
    let jr : Int := (r.n : Int) - sl.index
    let share := shareJoint (s.gap r sl.index e) jr
    let joint := clamp p.jmin p.jmax share
    { targetLeft := e + joint, targetJoint := some joint, predicted := !face.2
      clamped := joint ≠ share || e ≠ face.1 }

/-! ### Closer cut commit (R80 to R83) -/

/-- R83: the cut-limit indication; the values are those of R191. -/
inductive CutLimit where
  | none | low | high
  deriving DecidableEq, Repr

/-- R191: 0 none, 1 low, 2 high. -/
def CutLimit.value : CutLimit → Nat
  | .none => 0 | .low => 1 | .high => 2

/-- R81: from the slots below the closer, the highest index first: the gauged lengths of those without a known face, how
many there are, and the face of the first that has one. -/
def State.cutFrom (s : State) : List (Nat × Slot) → Int × Nat × Option Int
  | [] => (0, 0, none)
  | e :: rest =>
    match s.knownFace e.2 with
    | some f => (0, 0, some f.1)
    | none =>
      let (sum, count, face) := s.cutFrom rest
      (sum + e.2.gauged.getD 0, count + 1, face)

/-- R82: a cut limited to the kind: a multiple of q from Cmin to the cut ceiling, with the indication of R83. -/
def limitCut (k : Kind) (q c : Int) : Int × CutLimit :=
  if q * (c / q) < k.cmin then (k.cmin, .low)
  else if q * (k.length / q) < q * (c / q) then (q * (k.length / q), .high)
  else (q * (c / q), .none)

/-- R81: C′ before rounding to the saw step. With a face at p the joints are those of slots p + 1 to c; with none they are
c, since slot 0 has no left joint. -/
def State.rawCut (s : State) (sl : Slot) : Int :=
  let r := s.runOf sl
  let jn := (s.profileOf sl).jn
  let below := (s.slotsAt (r.slotIds.take sl.index)).reverse
  let (sum, count, face) := s.cutFrom below
  match face with
  | some f => r.stop - f - sum - ((count : Int) + 1) * jn
  | none => r.stop - r.start - sum - (sl.index : Int) * jn

/-- R82, R83: the cut of a closer slot. -/
def State.closerCut (s : State) (sl : Slot) : Int × CutLimit := limitCut (s.kind sl.kind) s.params.sawStep (s.rawCut sl)

/-! ### RUN SLACK (R85 to R87) -/

/-- R86: the lowest index of a run whose slot is neither PLACED nor VERIFIED; n when every slot is. -/
def State.firstUnlaid (s : State) (r : Run) : Nat :=
  (s.slotsAt r.slotIds).findIdx fun e => e.2.state ≠ .placed ∧ e.2.state ≠ .verified

/-- R86: the face E, with whether it is measured; for k = 0 the run's start, which is neither. -/
def State.slackFace (s : State) (r : Run) (k : Nat) : Int × Option Bool :=
  if k = 0 then (r.start, none)
  else match (s.slotsAt r.slotIds)[k - 1]? with
    | none => (r.start, none)
    | some e =>
      match s.knownFace e.2 with
      | none => (r.start, none)
      | some f => (if k < r.n then limitFace f.1 else f.1, some f.2)

/-- R86: the number of joints still to be made. -/
def slackJoints (r : Run) (k : Nat) : Int := if k = 0 then (r.n : Int) - 1 else (r.n : Int) - k

/-- R87: the answer to RUN SLACK. -/
def State.slackField (s : State) (w number order : Nat) (c : Course) (id : Nat) (r : Run) : List Byte :=
  let k := s.firstUnlaid r
  let face := s.slackFace r k
  let jr := slackJoints r k
  let g := s.gap r k face.1
  let p := s.profile c.profile
  let cut := ((s.slotsAt r.slotIds).getLast?).bind fun e => e.2.cutLength
  u8 w ++ u8 number ++ u8 order ++ u8 id ++ u8 k ++ u8 jr.toNat ++ s24Field g ++ s24Field (g - jr * p.jmin) ++
    s24Field (jr * p.jmax - g) ++ [Config.faceCode face.2] ++ yesNo r.closerCommitted ++
    optField 2 brickField (if r.closerCommitted then cut else none) ++
    optField 2 brickField (if r.closerCommitted then none else r.closerLength)

/-- R85, R86, R87. -/
def runSlack (w number order : Nat) (s : State) : Reply × State :=
  if 7 < order then (Reply.refuse .outOfRange, s)
  else withCourse w number (fun _ c s =>
    if !c.live || c.runCount ≤ order then (Reply.refuse .outOfRange, s)
    else
      let id := (c.runIds.getD [])[order]?.getD 0
      (Reply.okWith (s.slackField w number order c id ((s.run id).getD Run.blank)), s)) s

/-! ### The meaning -/

/-- RUN_SLACK, R86. -/
def execRunSlack (tag : Byte) (wall number order : Nat) : State → Host.Outcome State Fault Refusal :=
  serve (.runSlack tag wall number order) (runSlack wall number order)

end Sys2Proof.Machine
end

