-- ==== Sys2Proof/Machine/Stations.lean ====
section
/-! DEFINITION. Stations and reach: STATION SET, STATION MOVE, STATION READ, DATUM, the drain and the reach test (08 R149 to
R157, R162). The truck lines are in Lines. -/

namespace Sys2Proof.Machine

/-- A station at which the truck stands (R4, R150, R158, R160). -/
def StationState.inUse (st : StationState) : Bool := st = .parked ∨ st = .draining

/-- The state of the station in an answer (R189). -/
def State.stationField (s : State) : List Byte := u8 s.station.state.value

/-- R155: the drain is done: the station becomes MOVING, the datum becomes not valid, and DRAINED is raised. -/
def State.drainDone (s : State) : State :=
  { s with station := { s.station with state := .moving, datumValid := false } }.raise .drained

/-- R109, R155: the feed-empty report, which acts only in DRAINING. -/
def State.feedEmpty (s : State) : State := if s.station.state = .draining then s.drainDone else s

/-- R157: a slot is in reach of the station. -/
def State.inReach (s : State) (sl : Slot) : Bool :=
  (s.courseOf sl).wall = s.station.wall ∧ s.station.xLo ≤ sl.plannedLeft ∧ s.plannedRight sl ≤ s.station.xHi ∧
    s.topOf (s.courseOf sl) ≤ s.station.zHi

/-- R150, R151. -/
def stationSet (w : Nat) (xLo xHi zHi : Int) (s : State) : Reply × State :=
  if 3 < w ∨ zHi < 1 ∨ 8388607 < zHi then (Reply.refuse .outOfRange, s)
  else if s.station.state.inUse then (Reply.refusedWith .badState s.stationField, s)
  else if s.filters.parked.level = false then (Reply.refuse .notParked, s)
  else withWall w (fun r s =>
    if xLo < 0 ∨ r.length < xHi ∨ xHi ≤ xLo ∨ 80000 < xHi - xLo then (Reply.refuse .outOfRange, s)
    else
      let s1 : State :=
        { s with
          station :=
            { s.station with state := .parked, wall := w, xLo := xLo, xHi := xHi, zHi := zHi, datumValid := false } }
      (Reply.okWith (s1.stationField ++ u8 w), s1)) s

/-- R154. -/
def stationMove (s : State) : Reply × State :=
  match s.station.state with
  | .parked =>
    if s.queue = [] then (Reply.okWith s.drainDone.stationField, s.drainDone)
    else
      let s1 : State := { s with station := { s.station with state := .draining } }
      (Reply.okWith (s1.stationField ++ u8 s.queue.length), s1)
  | .draining => (Reply.okWith s.stationField, s)
  | .moving => (Reply.okWith s.stationField, s)
  | .unset => (Reply.refusedWith .badState s.stationField, s)
  | .lost => (Reply.refusedWith .badState s.stationField, s)

/-- A slot in the arm's hands, with its state, in an answer (R162, R171): one optional field of three bytes, so one presence
byte for both (DESIGN CHOICE, log 22). -/
def State.inHandField (s : State) : List Byte :=
  optField 3 (fun (e : Nat × Slot) => u16 e.1 ++ u8 e.2.state.value) s.inHand

/-- R162. -/
def stationRead (s : State) : Reply × State :=
  let st := s.station
  (Reply.okWith (s.stationField ++ u8 st.wall ++ s24Field st.xLo ++ s24Field st.xHi ++ s24Field st.zHi ++
    s24Field st.ox ++ s24Field st.oy ++ s24Field st.oz ++ s16 st.skew ++ yesNo st.datumValid ++ u8 s.queue.length ++
    s.inHandField), s)

/-- R152 check 3: an offset outside its range. -/
def offsetOut (z : Int) : Bool := z < -500000 ∨ 500000 < z

/-- R152, R153. -/
def datum (ox oy oz skew : Int) (s : State) : Reply × State :=
  if s.station.state.inUse = false then (Reply.refusedWith .badState s.stationField, s)
  else match s.inHand with
    | some e => (Reply.plain .busy (u16 e.1), s)
    | none =>
      match [ox, oy, oz].find? offsetOut with
      | some z => (Reply.refusedWith .datumRange (s24Field z), s)
      | none =>
        if s.params.maxSkew < magnitude skew then
          (Reply.refusedWith .datumSkew (s16 skew ++ s16 s.params.maxSkew), s)
        else
          (Reply.okay,
            { s with station := { s.station with ox := ox, oy := oy, oz := oz, skew := skew, datumValid := true } })

/-! ### The meanings -/

/-- STATION_SET, R151. -/
def execStationSet (tag : Byte) (wall : Nat) (xLo xHi zHi : Int) : State → Host.Outcome State Fault Refusal :=
  serve (.stationSet tag wall xLo xHi zHi) (stationSet wall xLo xHi zHi)

/-- STATION_MOVE, R154. -/
def execStationMove (tag : Byte) : State → Host.Outcome State Fault Refusal := serve (.stationMove tag) stationMove

/-- STATION_READ, R162. -/
def execStationRead (tag : Byte) : State → Host.Outcome State Fault Refusal := serve (.stationRead tag) stationRead

/-- DATUM, R153. -/
def execDatum (tag : Byte) (ox oy oz skew : Int) : State → Host.Outcome State Fault Refusal :=
  serve (.datum tag ox oy oz skew) (datum ox oy oz skew)

end Sys2Proof.Machine
end

