-- ==== Sys2Proof/Machine/Feed.lean ====
section
/-! DEFINITION. The feed queue: the feed candidate, PICK, DELIVERED, FLUSH and QUEUE READ (05 R88 to R110). -/

namespace Sys2Proof.Machine

/-- R88: the queue holds at most 6 entries. -/
def queueCapacity : Nat := 6

/-- R92: a run predecessor that lets the next slot be fed. -/
def SlotState.feedsNext (st : SlotState) : Bool := st ≠ .planned ∧ st ≠ .rejected

/-- R92: the condition on the run predecessor. -/
def State.predecessorFed (s : State) (sl : Slot) : Bool :=
  sl.index = 0 || (s.predecessor sl).any fun e => e.2.state.feedsNext

/-- R92: the condition on the supports. -/
def State.supportsFed (s : State) (sl : Slot) : Bool :=
  sl.supports.all fun id => (s.slot id).any fun u => u.state ≠ .planned

/-- R92: the five conditions of a feed candidate. -/
def State.feedable (s : State) (sl : Slot) : Bool :=
  sl.state = .planned && (s.courseOf sl).state = .active && s.inReach sl && s.predecessorFed sl && s.supportsFed sl

/-- R92: the first slot in lay order of the station's wall that meets every condition. -/
def State.candidate (s : State) : Option (Nat × Slot) :=
  (s.laySlots s.station.wall).find? fun e => s.feedable e.2

/-! ### PICK (R94 to R100) -/

/-- R80, R100: the cut of a closer that is assigned, with its indication, and the state in which it is committed. -/
def settleCut (id : Nat) (sl : Slot) (s : State) : Option Int × CutLimit × State :=
  if sl.closer then
    if (s.runOf sl).closerCommitted then (sl.cutLength, .none, s)
    else
      let cut := s.closerCut sl
      (some cut.1, cut.2,
        (s.updateSlot id fun sl => { sl with cutLength := some cut.1 }).updateRun sl.run
          fun r => { r with closerCommitted := true })
  else (none, .none, s)

/-- R191: the fields of the OK answer to PICK, before the summary. -/
def pickField (s : State) (id : Nat) (sl : Slot) (cut : Option Int) (limit : CutLimit) : List Byte :=
  [s.generation] ++ u16 id ++ u8 (s.courseOf sl).wall ++ u8 (s.courseOf sl).number ++ u8 (s.runOf sl).order ++
    u8 sl.index ++ u8 ((if sl.closer then 1 else 0) + 2 * limit.value) ++ brickField (cut.getD 0)

/-- R99: the brick is assigned to the candidate. The closer cut commit reads the run with the slot's own gauge written,
which it does not use (R81 reads the slots below). -/
def assign (id : Nat) (sl : Slot) (gauged : Int) (s : State) : Reply × State :=
  let s1 := s.updateSlot id fun sl =>
    { sl with state := .fed, generation := some s.generation, gauged := some gauged }
  let (cut, limit, s2) := settleCut id sl s1
  let entry : Entry :=
    { generation := s.generation, slot := id, kind := sl.kind, gauged := gauged, cutLength := cut, position := .onBelt }
  (Reply.okWith (pickField s id sl cut limit), { s2 with queue := s2.queue ++ [entry] })

/-- R94: PICK. -/
def pick (kind : Nat) (gauged : Int) (s : State) : Reply × State :=
  if 7 < kind then (Reply.refuse .outOfRange, s)
  else if s.station.state ≠ .parked then
    ({ answer := .hold, reason := .station, detail := s.stationField }, s)
  else if s.flags.severe then ({ answer := .hold, reason := .halted, detail := s.flags.severeField }, s)
  else if queueCapacity ≤ s.queue.length then (Reply.plain .busy [], s)
  else match s.candidate with
    | none => (Reply.plain .none [], s)
    | some (id, sl) =>
      if kind ≠ sl.kind then (Reply.refusedWith .wrongKind (u16 id ++ u8 sl.kind), s)
      else if (s.kind sl.kind).lt < magnitude (gauged - (s.kind sl.kind).length) then
        (Reply.refusedWith .lengthOut (u16 id ++ s24Field (gauged - (s.kind sl.kind).length)), s)
      else assign id sl gauged s

/-! ### DELIVERED (R102 to R104) -/

/-- R104: the slot id of the head's entry, −1 when the queue is empty. -/
def State.expectedSlot (s : State) : Int :=
  match s.queue with
  | [] => -1
  | e :: _ => e.slot

/-- R104: REFUSED SEQUENCE and the SEQUENCE severe fault. The expected slot is 2 bytes, −1 as all ones (log 15). -/
def sequenceFault (slot : Nat) (s : State) : Reply × State :=
  (Reply.refusedWith .sequence (s16 s.expectedSlot),
    s.report
      { flag := .sequence, severity := 4, slot := some slot
        course := (s.slot slot).bind fun sl => s.capturedCourse sl.course
        port := some .f, detail := s.expectedSlot })

/-- R102, R103, R104. -/
def delivered (generation : Byte) (slot : Nat) (s : State) : Reply × State :=
  if slotCapacity ≤ slot then (Reply.refuse .outOfRange, s)
  else if generation ≠ s.generation then (Reply.plain .discard [], s)
  else match s.queue with
    | [] => sequenceFault slot s
    | e :: rest =>
      if e.slot = slot ∧ e.generation = generation ∧ e.position = .onBelt then
        (Reply.okay, { s with queue := { e with position := .atGripper } :: rest })
      else sequenceFault slot s

/-! ### FLUSH (R106) -/

/-- R106: a queued slot goes back to PLANNED. -/
def Slot.unfed (sl : Slot) : Slot := { sl with state := .planned, generation := none, gauged := none }

/-- R106: the slots of the entries, from the head to the tail. -/
def unfeed (slots : List (Nat × Slot)) (queue : List Entry) : List (Nat × Slot) :=
  queue.foldl (fun t e => Table.update t e.slot Slot.unfed) slots

/-- R106. -/
def flush (s : State) : Reply × State :=
  match s.inHand with
  | some e => (Reply.refusedWith .busy (u16 e.1), s)
  | none =>
    let s1 : State :=
      { s with slots := unfeed s.slots s.queue, queue := [], generation := s.generation + 1 }
    (Reply.okWith (u8 s.queue.length ++ [s1.generation]), s1.feedEmpty)

/-! ### QUEUE READ (R110, R189) -/

/-- R189: an entry in the answer to QUEUE READ, 9 bytes. -/
def State.entryField (s : State) (e : Entry) : List Byte :=
  [e.generation] ++ u16 e.slot ++ u8 e.kind ++ brickField e.gauged ++ brickField (e.cutLength.getD 0) ++
    u8 ((if e.cutLength.isSome then 1 else 0) + (if e.position = .atGripper then 2 else 0) +
      4 * ((s.slot e.slot).map fun sl => sl.state.value).getD 0)

/-- R110: the candidate that QUEUE READ reports: computed in PARKED and DRAINING, absent in the other states. -/
def State.reportedCandidate (s : State) : Option (Nat × Slot) :=
  if s.station.state.inUse then s.candidate else none

/-- R110. -/
def queueRead (s : State) : Reply × State :=
  (Reply.okWith ([s.generation] ++ u8 s.queue.length ++
    optField 2 (fun (e : Nat × Slot) => u16 e.1) s.reportedCandidate ++ s.queue.flatMap s.entryField), s)

/-! ### The meanings -/

/-- PICK, R99. -/
def execPick (tag : Byte) (kind : Nat) (gauged : Int) : State → Host.Outcome State Fault Refusal :=
  serve (.pick tag kind gauged) (pick kind gauged)

/-- DELIVERED, R103. -/
def execDelivered (tag generation : Byte) (slot : Nat) : State → Host.Outcome State Fault Refusal :=
  serve (.delivered tag generation slot) (delivered generation slot)

/-- FLUSH, R106. -/
def execFlush (tag : Byte) : State → Host.Outcome State Fault Refusal := serve (.flush tag) flush

/-- QUEUE_READ, R110. -/
def execQueueRead (tag : Byte) : State → Host.Outcome State Fault Refusal := serve (.queueRead tag) queueRead

end Sys2Proof.Machine
end

