-- ==== Sys2Proof/Machine/Verify.lean ====
section
/-! DEFINITION. Placement and verification, which PLACED, MEASURE and ABSENT share (05 R108, 06 R121 and R126, 07 R141 to
R146). -/

namespace Sys2Proof.Machine

/-! ### Placement -/

/-- R126: the run's open joint when a slot of it becomes PLACED at a site time. -/
def Run.afterPlaced (r : Run) (index : Nat) (now : Time) (tOpen : Nat) : Run :=
  { r with
    openJoint := if index + 1 = r.n then none else some { index := index, deadline := now + BitVec.ofNat 32 tOpen } }

/-- R108, R109: the head entry leaves the queue; feed empty is reported when it was the last. -/
def State.removeHead (s : State) : State :=
  let s1 : State := { s with queue := s.queue.tail }
  if s1.queue = [] then s1.feedEmpty else s1

/-- R121 steps 1 to 3, R137 steps 2 to 4: the slot becomes PLACED now, the head leaves the queue, and the run's open joint
is set. -/
def State.place (s : State) (id : Nat) (sl : Slot) : State :=
  let s1 := s.updateSlot id fun sl =>
    { sl with state := .placed, placedTime := some s.siteTime, generation := none }
  s1.removeHead.updateRun sl.run fun r => r.afterPlaced sl.index s.siteTime (s.profileOf sl).tOpen

/-! ### Verification -/

/-- R142: a check, with its deviation. -/
structure Failure where
  reason : RejectReason
  deviation : Option Int
  deriving DecidableEq, Repr

/-- A check that fails when a condition holds. -/
def failWhen (condition : Bool) (reason : RejectReason) (deviation : Option Int) : List Failure :=
  if condition then [{ reason := reason, deviation := deviation }] else []

/-- R142: the actual joint of a slot, when its run predecessor holds a measurement. -/
def State.actualJoint (s : State) (sl : Slot) (m : Measurement) : Option Int :=
  ((s.predecessor sl).bind fun p => p.2.measurement).map fun q => m.xRight - s.currentLength sl - q.xRight

/-- R142: the JOINT check on an actual joint. -/
def jointFailure (lo hi : Int) : Option Int → List Failure
  | none => []
  | some j =>
    if j < lo then [{ reason := .joint, deviation := some (j - lo) }]
    else if hi < j then [{ reason := .joint, deviation := some (j - hi) }]
    else []

/-- R142: the checks that fail for a slot measured as given, in the order of the table. -/
def State.failures (s : State) (sl : Slot) (m : Measurement) : List Failure :=
  let r := s.runOf sl
  let p := s.profileOf sl
  let t := s.params
  let height := m.zTop - s.topOf (s.courseOf sl)
  let past := m.xRight - r.stop
  let shift := m.xRight - s.targetRight sl
  failWhen sl.cold .coldJoint none ++
  failWhen (t.tolZ < magnitude height) .height (some height) ++
  failWhen (t.tolY < magnitude m.yOff) .plane (some m.yOff) ++
  failWhen (sl.index + 1 = r.n && t.tolEnd < magnitude past) .endFace (some past) ++
  failWhen (t.tolX < magnitude shift) .position (some shift) ++
  jointFailure (p.jmin - t.tolJoint) (p.jmax + t.tolJoint) (s.actualJoint sl m)

/-- R145: the deviation of the most severe geometric code, or 0. -/
def detailOf (l : List Failure) : Int := (l.filterMap Failure.deviation).headD 0

/-- R144: the severity offered: that of the list's first code. -/
def severityOf (l : List Failure) : Nat := ((l.head?).map fun f => f.reason.severity).getD 0

/-- R144: the slot becomes REJECTED and the rejection is reported. -/
def State.reject (s : State) (id : Nat) (sl : Slot) (port : Port) (l : List Failure) : State :=
  (s.updateSlot id fun sl => { sl with state := .rejected, rejectReasons := l.map Failure.reason }).report
    { flag := .reject, severity := severityOf l, slot := some id, course := s.capturedCourse sl.course
      port := some port, detail := detailOf l }

/-- R143: the slot becomes VERIFIED and the completion test is made. -/
def State.verifySlot (s : State) (id : Nat) (sl : Slot) : State :=
  (s.updateSlot id fun sl => { sl with state := .verified }).completionTest sl.course

/-- R141 to R145: verification of a laid slot from the measurement it holds; none without a measurement. -/
def State.verify (s : State) (id : Nat) (port : Port) : State :=
  match s.slot id with
  | none => s
  | some sl =>
    match sl.measurement with
    | none => s
    | some m => if s.failures sl m = [] then s.verifySlot id sl else s.reject id sl port (s.failures sl m)

/-- The state of a slot in an answer (R121, R134). -/
def State.slotStateField (s : State) (id : Nat) : List Byte := u8 (((s.slot id).map fun sl => sl.state.value).getD 0)

end Sys2Proof.Machine
end

