-- ==== Sys2Proof/Machine/Arm.lean ====
section
/-! DEFINITION. The arm port: NEXT, PLACED, DECLINE, and the expiry of an open joint (06 R111 to R128). -/

namespace Sys2Proof.Machine

/-! ### NEXT (R112 to R120) -/

/-- R190: the answer to NEXT after its two leading bytes, for an ISSUED slot: the place order of R120 and the state. -/
def State.orderField (s : State) (id : Nat) (sl : Slot) : List Byte :=
  u16 id ++ [sl.generation.getD 0] ++ s24Field (sl.targetLeft.getD 0 - s.station.ox) ++ s24Field (0 - s.station.oy) ++
    s24Field ((s.courseOf sl).baseZ - s.station.oz) ++ jointField (sl.targetJoint.getD 0) ++
    brickField (s.currentLength sl) ++
    flagsByte [sl.reapply, sl.predicted, sl.clamped, sl.closer, true, sl.targetJoint.isSome] ++ u8 sl.state.value

/-- R190: in a BUSY answer for an UNCERTAIN slot only the slot id and the state are filled. -/
def uncertainField (id : Nat) (sl : Slot) : List Byte := u16 id ++ List.replicate 14 0 ++ u8 sl.state.value

/-- R114: the BUSY answer. -/
def State.busyReply (s : State) (id : Nat) (sl : Slot) : Reply :=
  Reply.plain .busy (if sl.state = .issued then s.orderField id sl else uncertainField id sl)

/-- R116: the head in a WAIT NO_BRICK: its tag and position, or its absence. -/
def State.headField (s : State) : List Byte :=
  optField 4 (fun (e : Entry) => [e.generation] ++ u16 e.slot ++ u8 e.position.value) s.queue.head?

/-- R112 conditions 2 to 6: the part and the truck. -/
def State.nextHold (s : State) : Option Reply :=
  if s.filters.arm.level = false then some (Reply.refuse .armNotReady)
  else if s.flags.severe then some (Reply.waitFor .halted s.flags.severeField)
  else if s.station.state.inUse = false then some (Reply.waitFor .station s.stationField)
  else if s.station.datumValid = false then some (Reply.waitFor .datum [])
  else if s.filters.wind.level then some (Reply.waitFor .wind [])
  else none

/-- R117: the first support, in list order, that is not VERIFIED. -/
def State.unverifiedSupport (s : State) (sl : Slot) : Option (Nat × Slot) :=
  (s.slotsAt sl.supports).find? fun e => e.2.state ≠ .verified

/-- R118: the largest time still to run over the supports, 0 when all are set. -/
def State.supportsSetting (s : State) (sl : Slot) : Nat :=
  largest ((s.slotsAt sl.supports).map fun e => s.stillSetting e.2)

/-- R112 condition 9: the run predecessor that is neither PLACED nor VERIFIED. -/
def State.unlaidPredecessor (s : State) (sl : Slot) : Option (Nat × Slot) :=
  (s.predecessor sl).filter fun e => e.2.state ≠ .placed ∧ e.2.state ≠ .verified

/-- R112 conditions 8 to 11: the wall under the brick. -/
def State.headHold (s : State) (id : Nat) (sl : Slot) : Option Reply :=
  if s.inReach sl = false then some (Reply.waitFor .reach (u16 id))
  else match s.unlaidPredecessor sl with
    | some e => some (Reply.waitFor .predecessor (u16 e.1 ++ u8 e.2.state.value))
    | none =>
      match s.unverifiedSupport sl with
      | some e => some (Reply.waitFor .support (u16 e.1 ++ u8 e.2.state.value))
      | none => if 0 < s.supportsSetting sl then some (Reply.waitFor .setting (u32 (s.supportsSetting sl))) else none

/-- R119 steps 1 to 3: what the issue makes of a slot's record. -/
def Slot.issuedAs (c : Correction) (sl : Slot) : Slot :=
  { sl with
    state := .issued, targetLeft := some c.targetLeft, targetJoint := c.targetJoint, predicted := c.predicted
    clamped := c.clamped }

/-- R119: the head's slot is issued, with the place order of R120. -/
def issue (id : Nat) (sl : Slot) (s : State) : Reply × State :=
  let issued := sl.issuedAs (s.correction sl)
  let s1 := s.updateSlot id fun _ => issued
  (Reply.okWith (s1.orderField id issued), s1)

/-- R112 condition 7 and the conditions after it. A head whose slot is not live holds no brick to lay (log 8: R89). -/
def nextAtHead (s : State) : Reply × State :=
  match s.queue with
  | [] => (Reply.waitFor .noBrick s.headField, s)
  | e :: _ =>
    if e.position = .onBelt then (Reply.waitFor .noBrick s.headField, s)
    else match s.slot e.slot with
      | none => (Reply.waitFor .noBrick s.headField, s)
      | some sl =>
        match s.headHold e.slot sl with
        | some r => (r, s)
        | none => issue e.slot sl s

/-- R112: NEXT. -/
def next (s : State) : Reply × State :=
  match s.inHand with
  | some e => (s.busyReply e.1 e.2, s)
  | none =>
    match s.nextHold with
    | some r => (r, s)
    | none => nextAtHead s

/-! ### PLACED and DECLINE (R121 to R124) -/

/-- R121, R122: PLACED of a slot in the arm's hands. -/
def placeReported (id : Nat) (sl : Slot) (s : State) : Reply × State :=
  let s1 := (s.place id sl).verify id .a
  (Reply.plain (if sl.cold then .late else .ok) (s1.slotStateField id), s1)

/-- R121, R122, R123. -/
def placed (id : Nat) (s : State) : Reply × State :=
  withSlot .a id (fun sl s =>
    match sl.state with
    | .issued => placeReported id sl s
    | .uncertain => placeReported id sl s
    | .placed => (Reply.plain .duplicate (u8 sl.state.value), s)
    | .verified => (Reply.plain .duplicate (u8 sl.state.value), s)
    | .rejected => (Reply.plain .duplicate (u8 sl.state.value), s)
    | .planned => (Reply.refusedWith .notIssued (u8 sl.state.value), s)
    | .fed => (Reply.refusedWith .notIssued (u8 sl.state.value), s)) s

/-- R124, R139: the order is given back: the slot becomes FED and its target absent. -/
def Slot.backToFed (sl : Slot) : Slot := { sl with state := .fed, targetLeft := none, targetJoint := none }

/-- R124. -/
def decline (id : Nat) (s : State) : Reply × State :=
  withSlot .a id (fun sl s =>
    if sl.state = .issued then (Reply.okay, s.updateSlot id Slot.backToFed)
    else (Reply.refusedWith .notIssued (u8 sl.state.value), s)) s

/-! ### Open joints (R127) -/

/-- R127: what the expiry does to the next slot of the run. -/
def Slot.afterExpiry (sl : Slot) : Slot :=
  match sl.state with
  | .planned => { sl with reapply := true }
  | .fed => { sl with reapply := true }
  | .issued => { sl with cold := true }
  | .uncertain => { sl with cold := true }
  | .placed => sl
  | .verified => sl
  | .rejected => sl

/-- R127: T_open has elapsed since the open joint was set. -/
def OpenJoint.due (j : OpenJoint) (tOpen : Nat) (now : Time) : Bool :=
  tOpen ≤ elapsed now (j.deadline - BitVec.ofNat 32 tOpen)

/-- The T_open of a run's profile (R126). -/
def State.openTime (s : State) (r : Run) : Nat :=
  (s.profile ((s.course r.course).getD Course.blank).profile).tOpen

/-- R127: the expiry of a run's open joint; no effect while the run has none or its deadline has not passed (log 4). -/
def jointExpiry (run : Nat) (s : State) : State :=
  match s.run run with
  | none => s
  | some r =>
    match r.openJoint with
    | none => s
    | some j =>
      if j.due (s.openTime r) s.siteTime then
        let s1 := s.updateRun run fun r => { r with openJoint := none }
        match r.slotIds[j.index + 1]? with
        | none => s1
        | some id => s1.updateSlot id Slot.afterExpiry
      else s

/-! ### The meanings -/

/-- NEXT, R112. -/
def execNext (tag : Byte) : State → Host.Outcome State Fault Refusal := serve (.next tag) next

/-- PLACED, R121. -/
def execPlaced (tag : Byte) (slot : Nat) : State → Host.Outcome State Fault Refusal := serve (.placed tag slot) (placed slot)

/-- DECLINE, R124. -/
def execDecline (tag : Byte) (slot : Nat) : State → Host.Outcome State Fault Refusal :=
  serve (.decline tag slot) (decline slot)

/-- OPEN_JOINT_EXPIRY, R127. -/
def execOpenJointExpiry (run : Nat) : State → Host.Outcome State Fault Refusal := event (jointExpiry run)

end Sys2Proof.Machine
end

