-- ==== Sys2Proof/Machine/Tracker.lean ====
section
/-! DEFINITION. The tracker port: MEASURE and ABSENT (07 R133 to R140). DATUM is in Stations. -/

namespace Sys2Proof.Machine

/-- R134: the reject reasons in the answer to MEASURE, the most severe first; the code of each is open (log 13). -/
def rejectField (l : List RejectReason) : List Byte := l.map fun r => Config.rejectCode r.severity

/-- R134: an OK answer to MEASURE: the state after the service and, for REJECTED, the reasons. No presence byte stands before
the reasons, and for VERIFIED nothing stands in their place (DESIGN CHOICE, log 24). -/
def State.measuredField (s : State) (id : Nat) : List Byte :=
  s.slotStateField id ++
    match s.slot id with
    | none => []
    | some sl => if sl.state = .rejected then rejectField sl.rejectReasons else []

/-- R135, R136, R137: the three values are written into the slot's measurement. -/
def State.storeMeasurement (s : State) (id : Nat) (m : Measurement) : State :=
  s.updateSlot id fun sl => { sl with measurement := some m }

/-- R134: MEASURE. -/
def measure (id : Nat) (m : Measurement) (s : State) : Reply × State :=
  withSlot .t id (fun sl s =>
    match sl.state with
    | .planned => (Reply.refusedWith .notPlaced (u8 sl.state.value), s)
    | .fed => (Reply.refusedWith .notPlaced (u8 sl.state.value), s)
    | .issued => (Reply.plain .held [], s.storeMeasurement id m)
    | .uncertain =>
      let s1 := ((s.storeMeasurement id m).place id sl).verify id .t
      (Reply.okWith (s1.measuredField id), s1)
    | .placed =>
      let s1 := (s.storeMeasurement id m).verify id .t
      (Reply.okWith (s1.measuredField id), s1)
    | .verified => (Reply.plain .duplicate (u8 sl.state.value), s)
    | .rejected => (Reply.plain .duplicate (u8 sl.state.value), s)) s

/-- R140: the reasons of a brick reported absent. -/
def missingFailures (sl : Slot) : List Failure :=
  failWhen sl.cold .coldJoint none ++ [{ reason := .missing, deviation := none }]

/-- R139, R140: ABSENT. -/
def absent (id : Nat) (s : State) : Reply × State :=
  withSlot .t id (fun sl s =>
    match sl.state with
    | .uncertain =>
      let s1 := s.updateSlot id Slot.backToFed
      (Reply.okWith (s1.slotStateField id), s1)
    | .placed =>
      let s1 := s.reject id sl .t (missingFailures sl)
      (Reply.okWith (s1.slotStateField id), s1)
    | .planned => (Reply.refusedWith .notApplicable (u8 sl.state.value), s)
    | .fed => (Reply.refusedWith .notApplicable (u8 sl.state.value), s)
    | .issued => (Reply.refusedWith .notApplicable (u8 sl.state.value), s)
    | .verified => (Reply.refusedWith .notApplicable (u8 sl.state.value), s)
    | .rejected => (Reply.refusedWith .notApplicable (u8 sl.state.value), s)) s

/-! ### The meanings -/

/-- MEASURE, R134. -/
def execMeasure (tag : Byte) (slot : Nat) (xRight yOff zTop : Int) : State → Host.Outcome State Fault Refusal :=
  serve (.measure tag slot xRight yOff zTop) (measure slot { xRight := xRight, yOff := yOff, zTop := zTop })

/-- ABSENT, R139. -/
def execAbsent (tag : Byte) (slot : Nat) : State → Host.Outcome State Fault Refusal := serve (.absent tag slot) (absent slot)

end Sys2Proof.Machine
end

