-- ==== Sys2Proof/Machine/Faults.lean ====
section
/-! DEFINITION. The host's requests to the Fault Unit: STATUS, ACKNOWLEDGE, ENABLE, CLEAR FAULT, CAPTURE READ and CAPTURE
CLEAR (09 R167 to R173). What reports do is in Flags. -/

namespace Sys2Proof.Machine

/-- R171, R178: the four edge flags, which are bits 7 to 10 of the reason set (R168). -/
def State.edgeFlagsField (s : State) : List Byte :=
  flagsByte [s.isRaised .lineArm, s.isRaised .lineParked, s.isRaised .lineGround, s.isRaised .lineWind]

/-- R171. -/
def status (s : State) : Reply × State :=
  (Reply.okWith (reasonsField s.reasons ++ reasonsField s.enables ++ s.flags.field ++ s.stationField ++
    yesNo s.station.datumValid ++ u8 s.queue.length ++ s.inHandField ++ s.edgeFlagsField ++ timeField s.siteTime ++
    yesNo s.processCapture.isNone ++ yesNo s.geometryCapture.isNone), s)

/-- R189: a set bit 11..15 names no reason. -/
def beyondReasons (r : BitVec 16) : Bool := r.extractLsb' 11 5 ≠ 0

/-- R172: each named reason is cleared, and the edge flag of a named line reason with it, for they are one (R168). -/
def acknowledge (reasons : BitVec 16) (s : State) : Reply × State :=
  if beyondReasons reasons then (Reply.refuse .outOfRange, s)
  else
    let s1 := { s with reasons := s.reasons &&& ~~~(reasons.setWidth 11) }.deriveOutputs
    (Reply.okWith (reasonsField s1.reasons), s1)

/-- R169. -/
def enable (enables : BitVec 16) (s : State) : Reply × State :=
  if beyondReasons enables then (Reply.refuse .outOfRange, s)
  else
    let s1 := { s with enables := enables.setWidth 11 }.deriveOutputs
    (Reply.okWith (reasonsField s1.enables), s1)

/-- R189: CLEAR FAULT names flags 1..6 in the order of the table of R163. -/
def flagNumbered (n : Nat) : Option FaultFlag :=
  if n = 1 then some .sequence
  else if n = 2 then some .parkLost
  else if n = 3 then some .loadTimeout
  else if n = 4 then some .overrun
  else if n = 5 then some .reference
  else if n = 6 then some .reject
  else none

/-- R173: the condition that refuses CLEAR FAULT. It is tested whether or not the flag is set (DESIGN CHOICE, log 23: R173's
table refuses, its sentence on a flag already clear accepts). -/
def clearRefusal (flag : FaultFlag) (s : State) : Option Reply :=
  match flag with
  | .sequence => if s.queue = [] then none else some (Reply.refusedWith .queueNotEmpty (u8 s.queue.length))
  | .parkLost => if s.station.state = .parked then none else some (Reply.refusedWith .badState s.stationField)
  | .loadTimeout => none
  | .overrun => none
  | .reference => none
  | .reject => none

/-- R173. -/
def clearFault (n : Nat) (s : State) : Reply × State :=
  match flagNumbered n with
  | none => (Reply.refuse .outOfRange, s)
  | some flag =>
    match clearRefusal flag s with
    | some r => (r, s)
    | none => (Reply.okWith (s.putFlag flag false).flags.field, s.putFlag flag false)

/-- R167, R165: a capture in an answer: whether it is empty and, when it is not, every field, which are left off when it is
(DESIGN CHOICE, log 24). -/
def captureField : Option Captured → List Byte
  | none => yesNo true
  | some c =>
    yesNo false ++ u8 c.cls.value ++ u8 c.severity ++ timeField c.time ++ optField 2 u16 c.slot ++
      optField 3 (fun (k : CapturedCourse) => u8 k.entry ++ u8 k.wall ++ u8 k.number) c.course ++
      optField 1 (fun (port : Port) => [Config.portCode port]) c.port ++ s24Field c.detail

/-- R167: CAPTURE READ. The captures are numbered 1 (process) and 2 (geometry) (R189). -/
def captureRead (n : Nat) (s : State) : Reply × State :=
  if n = 1 then (Reply.okWith (captureField s.processCapture), s)
  else if n = 2 then (Reply.okWith (captureField s.geometryCapture), s)
  else (Reply.refuse .outOfRange, s)

/-- R167: CAPTURE CLEAR. -/
def captureClear (n : Nat) (s : State) : Reply × State :=
  if n = 1 then (Reply.okWith (captureField s.processCapture), { s with processCapture := none })
  else if n = 2 then (Reply.okWith (captureField s.geometryCapture), { s with geometryCapture := none })
  else (Reply.refuse .outOfRange, s)

/-! ### The meanings -/

/-- STATUS, R171. -/
def execStatus (tag : Byte) : State → Host.Outcome State Fault Refusal := serve (.status tag) status

/-- ACKNOWLEDGE, R172. -/
def execAcknowledge (tag : Byte) (reasons : BitVec 16) : State → Host.Outcome State Fault Refusal :=
  serve (.acknowledge tag reasons) (acknowledge reasons)

/-- ENABLE, R169. -/
def execEnable (tag : Byte) (enables : BitVec 16) : State → Host.Outcome State Fault Refusal :=
  serve (.enable tag enables) (enable enables)

/-- CLEAR_FAULT, R173. -/
def execClearFault (tag : Byte) (flag : Nat) : State → Host.Outcome State Fault Refusal :=
  serve (.clearFault tag flag) (clearFault flag)

/-- CAPTURE_READ, R167. -/
def execCaptureRead (tag : Byte) (capture : Nat) : State → Host.Outcome State Fault Refusal :=
  serve (.captureRead tag capture) (captureRead capture)

/-- CAPTURE_CLEAR, R167. -/
def execCaptureClear (tag : Byte) (capture : Nat) : State → Host.Outcome State Fault Refusal :=
  serve (.captureClear tag capture) (captureClear capture)

end Sys2Proof.Machine
end

