-- ==== Sys2Proof/Machine/Lines.lean ====
section
/-! DEFINITION. The Line Unit: site time, the input filters, the edges and their flags, RESET_N and the supply (10 R175 to
R182), with what the edges do to slots and the station (06 R129, 08 R158 to R161). -/

namespace Sys2Proof.Machine

/-! ### Site time (R175) -/

/-- R175: one millisecond. -/
def tick (s : State) : State := { s with siteTime := s.siteTime + 1 }

/-! ### Filters and edges (R176 to R178) -/

/-- R176: the filter time, in ms. -/
def filterTime : Nat := 10

/-- R176: the raw level of a line changes; a level it already has is no change. While a full reset holds the part the
filters have no effect (R180): only the pin's level is kept. -/
def rawChange (line : Line) (asserted : Bool) (s : State) : State :=
  let f := s.filters.get line
  if f.raw = asserted then s
  else if s.held then { s with filters := s.filters.put line { f with raw := asserted } }
  else { s with filters := s.filters.put line { f with raw := asserted, changedAt := s.siteTime } }

/-- R176: the raw level has stood 10 ms at a value the filtered level does not have. -/
def Filter.edgeDue (f : Filter) (now : Time) : Bool := f.raw ≠ f.level && filterTime ≤ elapsed now f.changedAt

/-- R178: an edge whose direction matches the line's sense sets the edge flag, which is the line's reason. -/
def State.judgeEdge (s : State) (line : Line) (rising : Bool) : State :=
  if s.senses.get line = (if rising then .rising else .falling) then s.raise (lineReason line) else s

/-- R176: the filtered level takes the raw level. -/
def State.acceptLevel (s : State) (line : Line) : State :=
  let f := s.filters.get line
  { s with filters := s.filters.put line { f with level := f.raw } }

/-- R176, R177: a filtered edge of a line in a direction, with the effect of the block it is handed to. An edge that the
filter does not give at this moment does not occur: no effect (log 4). -/
def edge (line : Line) (rising : Bool) (effect : State → State) (s : State) : State :=
  let f := s.filters.get line
  if f.edgeDue s.siteTime ∧ f.raw = rising then (effect (s.acceptLevel line)).judgeEdge line rising else s

/-- R129, R158: an ISSUED slot becomes UNCERTAIN and SLOT_UNCERTAIN is raised. -/
def loseSight (s : State) : State :=
  match s.issuedSlot with
  | none => s
  | some e => (s.updateSlot e.1 fun sl => { sl with state := .uncertain }).raise .slotUncertain

/-- R158: TRUCK_PARKED falls while the station is PARKED or DRAINING. -/
def parkLost (s : State) : State :=
  if s.station.state.inUse then
    let s1 : State := { s with station := { s.station with state := .lost, datumValid := false } }
    loseSight (s1.report
      { flag := .parkLost, severity := 4, slot := s.issuedSlot.map Prod.fst
        course := s.issuedSlot.bind fun e => s.capturedCourse e.2.course
        port := none, detail := s.queue.length })
  else s

/-- R160: GROUND_SHIFT rises while the station is PARKED or DRAINING. -/
def groundShift (s : State) : State :=
  if s.station.state.inUse then
    { s with station := { s.station with datumValid := false } }.raise .datumLost
  else s

/-! ### RESET_N and the supply (R179 to R181, R29, R188) -/

/-- R29, R179, R188: what a link reset does: the ports, the inbound queue and the open load; nothing else. -/
def linkResetEffect (s : State) : State :=
  { s.dropLoad with
    ports := { p := PortState.idle, a := PortState.idle, t := PortState.idle, f := PortState.idle }
    inbound := [], serving := none }

/-- R176: a filter that keeps only the level at its pin. -/
def Filter.pinOnly (f : Filter) : Filter := { raw := f.raw, level := false, changedAt := 0 }

/-- R180: every record takes its full-reset value, and the part is held. The levels at the pins are not the part's, and the
sampled strap stands until the release samples it again (R181). -/
def fullResetEffect (hold : Hold) (s : State) : State :=
  { State.reset with
    filters :=
      { arm := s.filters.arm.pinOnly, parked := s.filters.parked.pinOnly, ground := s.filters.ground.pinOnly
        wind := s.filters.wind.pinOnly }
    sawFitted := s.sawFitted, resetN := s.resetN, hold := hold, pending := s.pending }

/-- R176: at the release the filtered level is set to the raw level, and no edge occurs. -/
def Filter.released (f : Filter) : Filter := { raw := f.raw, level := f.raw, changedAt := 0 }

/-- R180, R181: the hold ends: site time counts from 0, the filtered levels are the raw levels, and the strap is sampled. -/
def release (sawPin : Bool) (s : State) : State :=
  { s with
    hold := .running, siteTime := 0, sawFitted := sawPin
    filters :=
      { arm := s.filters.arm.released, parked := s.filters.parked.released, ground := s.filters.ground.released
        wind := s.filters.wind.released } }

/-- R179: the bounds of a link reset pulse, in microseconds. -/
def linkResetFrom : Nat := 1000
/-- R179: a low that reaches 20 ms is a full reset. -/
def fullResetFrom : Nat := 20000

/-- R179: RESET_N rises after a low of the given width. Under 1 ms: no effect. From 1 ms to under 20 ms: a link reset. A low
of 20 ms or more has been taken as a full reset before its rising edge. While the supply monitor holds the part the pulse
only moves the pin (R180, log 5). -/
def risingAfter (lowMicros : Nat) (s : State) : State :=
  if s.resetN ∨ fullResetFrom ≤ lowMicros then s
  else match s.hold with
    | .running =>
      if lowMicros < linkResetFrom then { s with resetN := true }
      else linkResetEffect { s with resetN := true }
    | .bySupply => { s with resetN := true }
    | .byResetN => s

/-- R179, R180: a low period of RESET_N reaches 20 ms while the part works. -/
def lowReaches20ms (s : State) : State :=
  if s.resetN = false ∧ s.hold = .running then fullResetEffect .byResetN s else s

/-- R180: RESET_N rises and ends the full reset that it held; under the supply monitor's hold it only moves the pin. -/
def risingAfterFullReset (sawPin : Bool) (s : State) : State :=
  if s.resetN then s
  else match s.hold with
    | .byResetN => release sawPin { s with resetN := true }
    | .bySupply => { s with resetN := true }
    | .running => s

/-- R180: the supply has stood in range for 20 ms and RESET_N is high. -/
def supplyRelease (sawPin : Bool) (s : State) : State :=
  if s.hold = .bySupply ∧ s.resetN then release sawPin s else s

/-! ### The meanings -/

/-- SITE_TIME_INCREMENT, R175: site time stays at 0 while a full reset holds the part. -/
def execSiteTimeIncrement : State → Host.Outcome State Fault Refusal := event tick

/-- RAW_INPUT_CHANGE, R176. -/
def execRawInputChange (line : Line) (asserted : Bool) (s : State) : Host.Outcome State Fault Refusal :=
  .next (rawChange line asserted s)

/-- ARM_READY_FALLING, R129. -/
def execArmReadyFalling : State → Host.Outcome State Fault Refusal := event (edge .armReady false loseSight)

/-- ARM_READY_RISING, R129: changes no slot. -/
def execArmReadyRising : State → Host.Outcome State Fault Refusal := event (edge .armReady true id)

/-- TRUCK_PARKED_FALLING, R158. -/
def execTruckParkedFalling : State → Host.Outcome State Fault Refusal := event (edge .truckParked false parkLost)

/-- TRUCK_PARKED_RISING, R159: no effect on the station. -/
def execTruckParkedRising : State → Host.Outcome State Fault Refusal := event (edge .truckParked true id)

/-- GROUND_SHIFT_RISING, R160. -/
def execGroundShiftRising : State → Host.Outcome State Fault Refusal := event (edge .groundShift true groundShift)

/-- GROUND_SHIFT_FALLING, R160: no effect on the station. -/
def execGroundShiftFalling : State → Host.Outcome State Fault Refusal := event (edge .groundShift false id)

/-- WIND_HOLD_EDGE, R177: either direction, that of the raw level; handed to no block (R161). -/
def execWindHoldEdge : State → Host.Outcome State Fault Refusal :=
  event fun s => edge .windHold s.filters.wind.raw id s

/-- RESET_N_FALLING, R179: the low period begins; the part works as usual. -/
def execResetNFalling (s : State) : Host.Outcome State Fault Refusal := .next { s with resetN := false }

/-- LINK_RESET, R179. -/
def execLinkReset (lowMicros : Nat) (s : State) : Host.Outcome State Fault Refusal := .next (risingAfter lowMicros s)

/-- FULL_RESET, R180. -/
def execFullReset (s : State) : Host.Outcome State Fault Refusal := .next (lowReaches20ms s)

/-- FULL_RESET_RELEASE, R180. -/
def execFullResetRelease (sawPin : Bool) (s : State) : Host.Outcome State Fault Refusal :=
  .next (risingAfterFullReset sawPin s)

/-- POWER_UP, R180: a full reset held by the supply monitor. -/
def execPowerUp (s : State) : Host.Outcome State Fault Refusal := .next (fullResetEffect .bySupply s)

/-- POWER_UP_RELEASE, R180. -/
def execPowerUpRelease (sawPin : Bool) (s : State) : Host.Outcome State Fault Refusal := .next (supplyRelease sawPin s)

/-- SUPPLY_FALL, R180: a full reset at once, held in the same way. -/
def execSupplyFall (s : State) : Host.Outcome State Fault Refusal := .next (fullResetEffect .bySupply s)

end Sys2Proof.Machine
end

