-- ==== Sys2Proof/Machine/PortUnit.lean ====
section
/-! DEFINITION. The Port Unit's own events: bytes received, frames dropped, responses sent (11 R183 to R187). The life of a
request is in Ops. -/

namespace Sys2Proof.Machine

/-! ### Reception (R184) -/

/-- What one byte does to a receiver: its next state, and the whole frame (TAG, CODE, LEN, payload, CRC) when the byte is
the last of one. -/
structure Received where
  receiver : Receiver
  frame : Option (List Byte)
  deriving DecidableEq, Repr

/-- LEN of a frame of which TAG, CODE and LEN have been taken. -/
def lengthByte (bytes : List Byte) : Nat := ((bytes[2]?).getD 0).toNat

/-- R184: a byte with its stop bit high. -/
def Receiver.byte (r : Receiver) (b : Byte) : Received :=
  match r with
  | .hunt => { receiver := if b = sync then .header [] else .hunt, frame := none }
  | .header bytes =>
    let taken := bytes ++ [b]
    if taken.length < 3 then { receiver := .header taken, frame := none }
    else if 64 < lengthByte taken then { receiver := .hunt, frame := none }
    else if lengthByte taken = 0 then { receiver := .check taken, frame := none }
    else { receiver := .payload taken, frame := none }
  | .payload bytes =>
    let taken := bytes ++ [b]
    if taken.length < 3 + lengthByte taken then { receiver := .payload taken, frame := none }
    else { receiver := .check taken, frame := none }
  | .check bytes =>
    let taken := bytes ++ [b]
    if taken.length < 5 + lengthByte taken then { receiver := .check taken, frame := none }
    else { receiver := .hunt, frame := some taken }

/-- R184: the checks of a whole frame in order: the CRC, the CODE, the LEN. `none` drops the frame. -/
def checkFrame (port : Port) (frame : List Byte) : Option Instr :=
  let body := frame.take (frame.length - 2)
  if bytes16 (crc body) ≠ frame.drop (frame.length - 2) then none
  else match body with
    | tag :: code :: _ :: payload => decodeRequest port tag code.toNat payload
    | _ => none

/-- R184, R185: a request handed on. -/
def State.handOn (s : State) (port : Port) (frame : List Byte) : State :=
  match checkFrame port frame with
  | none => s
  | some i =>
    match i.header with
    | none => s
    | some h => s.arrive i h

/-- R184: a receiver put in a state. -/
def State.setReceiver (s : State) (port : Port) (r : Receiver) : State :=
  { s with ports := s.ports.put port { s.ports.get port with receiver := r } }

/-- R184: a byte arrives on a port. -/
def State.receiveByte (s : State) (port : Port) (b : Byte) : State :=
  let got := (s.ports.get port).receiver.byte b
  match got.frame with
  | none => s.setReceiver port got.receiver
  | some frame => (s.setReceiver port got.receiver).handOn port frame

/-- R184: bytes arrive on a port, in order. -/
def receive (port : Port) (bytes : List Byte) (s : State) : State :=
  bytes.foldl (fun s b => s.receiveByte port b) s

/-- R184: a frame in progress is dropped, and the receiver returns to HUNT. -/
def dropFrame (port : Port) (s : State) : State := s.setReceiver port .hunt

/-! ### Transmission (R187) -/

/-- R185, R187: the last byte of the response at the head of a transmit queue has left. The outstanding flag is cleared when
that response was the outstanding request's. -/
def responseLeft (port : Port) (s : State) : State :=
  let ps := s.ports.get port
  match ps.transmit with
  | [] => s
  | r :: rest =>
    { s with
      ports := s.ports.put port
        { ps with transmit := rest, outstanding := if r.closes then false else ps.outstanding } }

/-! ### The meanings -/

/-- FRAME_RECEIVED, R184. -/
def execFrameReceived (port : Port) (bytes : List Byte) : State → Host.Outcome State Fault Refusal :=
  event (receive port bytes)

/-- INTER_BYTE_TIMEOUT, R184. -/
def execInterByteTimeout (port : Port) : State → Host.Outcome State Fault Refusal := event (dropFrame port)

/-- STOP_BIT_LOW, R184. -/
def execStopBitLow (port : Port) : State → Host.Outcome State Fault Refusal := event (dropFrame port)

/-- RESPONSE_SENT, R187. -/
def execResponseSent (port : Port) : State → Host.Outcome State Fault Refusal := event (responseLeft port)

end Sys2Proof.Machine
end

