-- ==== Sys2Proof/Machine/Slots.lean ====
section
/-! DEFINITION. Slot records: SLOT READ, ACCEPT and RELAY (03 R62 to R68). -/

namespace Sys2Proof.Machine

/-- R192: the four support ids of SLOT READ, unused ones 0. -/
def supportsField (ids : List Nat) : List Byte := ((ids ++ List.replicate 4 0).take 4).flatMap u16

/-- R192: byte 51 of SLOT READ. -/
def reasonBits (l : List RejectReason) : List Byte :=
  flagsByte [l.contains .joint, l.contains .position, l.contains .endFace, l.contains .plane, l.contains .height,
    l.contains .missing, l.contains .coldJoint]

/-- R192: the flags byte of SLOT READ. -/
def slotFlagsField (sl : Slot) : List Byte :=
  flagsByte [sl.closer, sl.lintelSupported, sl.reapply, sl.predicted, sl.clamped, sl.cold, sl.accepted]

/-- R192: the presence byte of SLOT READ. -/
def slotPresenceField (sl : Slot) : List Byte :=
  flagsByte [sl.plannedJoint.isSome, sl.cutLength.isSome, sl.generation.isSome, sl.gauged.isSome, sl.targetLeft.isSome,
    sl.placedTime.isSome, sl.measurement.isSome, !sl.rejectReasons.isEmpty]

/-- R192: the three values of a measurement, zeros when absent. -/
def measurementField : Option Measurement → List Byte
  | none => s24Field 0 ++ s24Field 0 ++ s24Field 0
  | some m => s24Field m.xRight ++ s24Field m.yOff ++ s24Field m.zTop

/-- R63, R192: the OK answer to SLOT READ, 54 bytes with the two leading ones. -/
def State.slotField (s : State) (id : Nat) (sl : Slot) : List Byte :=
  u16 id ++ u8 sl.course ++ u8 (s.courseOf sl).wall ++ u8 (s.courseOf sl).number ++ u8 sl.run ++ u8 (s.runOf sl).order ++
    u8 sl.index ++ u8 sl.kind ++ u8 sl.state.value ++ slotFlagsField sl ++ slotPresenceField sl ++
    s24Field sl.plannedLeft ++ jointField (sl.plannedJoint.getD 0) ++ brickField (s.plannedLength sl) ++
    u8 sl.supports.length ++ supportsField sl.supports ++ brickField (sl.cutLength.getD 0) ++
    [sl.generation.getD 0] ++ brickField (sl.gauged.getD 0) ++ s24Field (sl.targetLeft.getD 0) ++
    jointField (sl.targetJoint.getD 0) ++ timeField (sl.placedTime.getD 0) ++ measurementField sl.measurement ++
    reasonBits sl.rejectReasons ++ brickField (s.currentLength sl)

/-- R63. -/
def slotRead (id : Nat) (s : State) : Reply × State :=
  withSlot .p id (fun sl s => (Reply.okWith (s.slotField id sl), s)) s

/-- R65: the answer of ACCEPT carries the course state after the request. -/
def State.courseStateField (s : State) (entry : Nat) : List Byte :=
  u8 ((s.course entry).getD Course.blank).state.value

/-- R65. -/
def accept (id : Nat) (s : State) : Reply × State :=
  withSlot .p id (fun sl s =>
    if sl.state ≠ .rejected then (Reply.refusedWith .notRejected (u8 sl.state.value), s)
    else
      let s1 := (s.updateSlot id fun sl => { sl with state := .verified, accepted := true }).completionTest sl.course
      (Reply.okWith (s1.courseStateField sl.course), s1)) s

/-- R66 check 2: the slot of the run with the lowest higher index that is not PLANNED. -/
def State.laterFed (s : State) (sl : Slot) : Option (Nat × Slot) :=
  (s.slotsAt ((s.runOf sl).slotIds.drop (sl.index + 1))).find? fun e => e.2.state ≠ .planned

/-- R53, R66 check 3: the first slot in lay order that names the slot as a support and is beyond PLANNED. -/
def State.loadedBy (s : State) (id : Nat) (sl : Slot) : Option (Nat × Slot) :=
  (s.laySlots (s.courseOf sl).wall).find? fun e => e.2.supports.contains id && e.2.state ≠ .planned

/-- R67: what RELAY makes of the slot's record. -/
def Slot.relaid (sl : Slot) : Slot :=
  { sl with
    state := .planned, gauged := none, targetLeft := none, targetJoint := none, placedTime := none, measurement := none
    rejectReasons := [], reapply := false, predicted := false, clamped := false, cold := false, accepted := false }

/-- R67: an open joint that names the slot becomes absent. -/
def Run.withoutJointAt (index : Nat) (r : Run) : Run :=
  { r with openJoint := r.openJoint.filter fun j => j.index ≠ index }

/-- R66, R67. -/
def relay (id : Nat) (s : State) : Reply × State :=
  withSlot .p id (fun sl s =>
    if sl.state ≠ .rejected then (Reply.refusedWith .notRejected (u8 sl.state.value), s)
    else match s.laterFed sl with
      | some e => (Reply.refusedWith .notLast (u8 e.2.index ++ u8 e.2.state.value), s)
      | none =>
        match s.loadedBy id sl with
        | some e => (Reply.refusedWith .loaded (u16 e.1), s)
        | none => (Reply.okay, (s.updateSlot id Slot.relaid).updateRun sl.run (Run.withoutJointAt sl.index))) s

/-! ### The meanings -/

/-- SLOT_READ, R63. -/
def execSlotRead (tag : Byte) (slot : Nat) : State → Host.Outcome State Fault Refusal :=
  serve (.slotRead tag slot) (slotRead slot)

/-- ACCEPT, R65. -/
def execAccept (tag : Byte) (slot : Nat) : State → Host.Outcome State Fault Refusal :=
  serve (.accept tag slot) (accept slot)

/-- RELAY, R67. -/
def execRelay (tag : Byte) (slot : Nat) : State → Host.Outcome State Fault Refusal :=
  serve (.relay tag slot) (relay slot)

end Sys2Proof.Machine
end

