-- ==== Sys2Proof/Machine/Dispatch.lean ====
section
/-! DEFINITION. The dispatch: one arm for each command, one direct call of its meaning. -/

namespace Sys2Proof.Machine

def exec (i : Instr) (s : State) : Host.Outcome State Fault Refusal :=
  match i with
  | .wallOpen tag wall length => Sys2Proof.Machine.execWallOpen tag wall length s
  | .wallClose tag wall => Sys2Proof.Machine.execWallClose tag wall s
  | .wallRead tag wall start => Sys2Proof.Machine.execWallRead tag wall start s
  | .featureAdd tag wall xa xb zSill zHead => Sys2Proof.Machine.execFeatureAdd tag wall xa xb zSill zHead s
  | .featureDrop tag feature => Sys2Proof.Machine.execFeatureDrop tag feature s
  | .lintelSet tag feature topZ bearing => Sys2Proof.Machine.execLintelSet tag feature topZ bearing s
  | .configKind tag kind length height bedDepth cmin lt => Sys2Proof.Machine.execConfigKind tag kind length height bedDepth cmin lt s
  | .configProfile tag profile jn jmin jmax bn tOpen => Sys2Proof.Machine.execConfigProfile tag profile jn jmin jmax bn tOpen s
  | .configParamSawStep tag value => Sys2Proof.Machine.execConfigParamSawStep tag value s
  | .configParamMinimumLap tag value => Sys2Proof.Machine.execConfigParamMinimumLap tag value s
  | .configParamTolerance tag parameter value => Sys2Proof.Machine.execConfigParamTolerance tag parameter value s
  | .configParamSetTime tag value => Sys2Proof.Machine.execConfigParamSetTime tag value s
  | .configParamDatumSkew tag value => Sys2Proof.Machine.execConfigParamDatumSkew tag value s
  | .configParamStrictReferences tag value => Sys2Proof.Machine.execConfigParamStrictReferences tag value s
  | .configParamEdgeSense tag parameter value => Sys2Proof.Machine.execConfigParamEdgeSense tag parameter value s
  | .configRead tag table number => Sys2Proof.Machine.execConfigRead tag table number s
  | .courseBegin tag wall kind profile runCount => Sys2Proof.Machine.execCourseBegin tag wall kind profile runCount s
  | .runEntry tag start stop => Sys2Proof.Machine.execRunEntry tag start stop s
  | .courseAbandon tag => Sys2Proof.Machine.execCourseAbandon tag s
  | .courseRetire tag wall number => Sys2Proof.Machine.execCourseRetire tag wall number s
  | .courseRead tag wall number order => Sys2Proof.Machine.execCourseRead tag wall number order s
  | .slotRead tag slot => Sys2Proof.Machine.execSlotRead tag slot s
  | .accept tag slot => Sys2Proof.Machine.execAccept tag slot s
  | .relay tag slot => Sys2Proof.Machine.execRelay tag slot s
  | .runSlack tag wall number order => Sys2Proof.Machine.execRunSlack tag wall number order s
  | .flush tag => Sys2Proof.Machine.execFlush tag s
  | .queueRead tag => Sys2Proof.Machine.execQueueRead tag s
  | .stationSet tag wall xLo xHi zHi => Sys2Proof.Machine.execStationSet tag wall xLo xHi zHi s
  | .stationMove tag => Sys2Proof.Machine.execStationMove tag s
  | .stationRead tag => Sys2Proof.Machine.execStationRead tag s
  | .status tag => Sys2Proof.Machine.execStatus tag s
  | .acknowledge tag reasons => Sys2Proof.Machine.execAcknowledge tag reasons s
  | .enable tag enables => Sys2Proof.Machine.execEnable tag enables s
  | .clearFault tag flag => Sys2Proof.Machine.execClearFault tag flag s
  | .captureRead tag capture => Sys2Proof.Machine.execCaptureRead tag capture s
  | .captureClear tag capture => Sys2Proof.Machine.execCaptureClear tag capture s
  | .next tag => Sys2Proof.Machine.execNext tag s
  | .placed tag slot => Sys2Proof.Machine.execPlaced tag slot s
  | .decline tag slot => Sys2Proof.Machine.execDecline tag slot s
  | .measure tag slot xRight yOff zTop => Sys2Proof.Machine.execMeasure tag slot xRight yOff zTop s
  | .absent tag slot => Sys2Proof.Machine.execAbsent tag slot s
  | .datum tag ox oy oz skew => Sys2Proof.Machine.execDatum tag ox oy oz skew s
  | .pick tag kind gauged => Sys2Proof.Machine.execPick tag kind gauged s
  | .delivered tag generation slot => Sys2Proof.Machine.execDelivered tag generation slot s
  | .loadInactivityTimeout => Sys2Proof.Machine.execLoadInactivityTimeout s
  | .openJointExpiry run => Sys2Proof.Machine.execOpenJointExpiry run s
  | .rawInputChange line asserted => Sys2Proof.Machine.execRawInputChange line asserted s
  | .armReadyFalling => Sys2Proof.Machine.execArmReadyFalling s
  | .armReadyRising => Sys2Proof.Machine.execArmReadyRising s
  | .truckParkedFalling => Sys2Proof.Machine.execTruckParkedFalling s
  | .truckParkedRising => Sys2Proof.Machine.execTruckParkedRising s
  | .groundShiftRising => Sys2Proof.Machine.execGroundShiftRising s
  | .groundShiftFalling => Sys2Proof.Machine.execGroundShiftFalling s
  | .windHoldEdge => Sys2Proof.Machine.execWindHoldEdge s
  | .resetNFalling => Sys2Proof.Machine.execResetNFalling s
  | .linkReset lowMicros => Sys2Proof.Machine.execLinkReset lowMicros s
  | .fullReset => Sys2Proof.Machine.execFullReset s
  | .fullResetRelease sawPin => Sys2Proof.Machine.execFullResetRelease sawPin s
  | .powerUp => Sys2Proof.Machine.execPowerUp s
  | .powerUpRelease sawPin => Sys2Proof.Machine.execPowerUpRelease sawPin s
  | .supplyFall => Sys2Proof.Machine.execSupplyFall s
  | .frameReceived port bytes => Sys2Proof.Machine.execFrameReceived port bytes s
  | .interByteTimeout port => Sys2Proof.Machine.execInterByteTimeout port s
  | .responseSent port => Sys2Proof.Machine.execResponseSent port s
  | .stopBitLow port => Sys2Proof.Machine.execStopBitLow port s
  | .siteTimeIncrement => Sys2Proof.Machine.execSiteTimeIncrement s

end Sys2Proof.Machine
end

