-- ==== Sys2Proof/Safety.lean ====
section
/-! DEFINITION. The terms in which statements about the BL-2 are made: which request a state serves, what a service leaves
in the Port Unit, and the invariants that the spec gives the records. -/

namespace Sys2Proof.Machine

/-! ### The service of a request (11 R185 to R187) -/

/-- The request is served now: the part is not held (R180), and the request is the one the arbiter has chosen, be it that
it arrived before or that it arrives at this moment (log 1). -/
def State.serves (s : State) (i : Instr) : Bool :=
  !s.held && i.header.any fun h => (s.presented i h).serving = some i

/-- The choice of the next request out of an inbound queue: the request to be served, and the queue it leaves (R186). -/
def nextChoice (q : List Waiting) : Option Instr × List Waiting :=
  match choose q with
  | none => (none, q)
  | some (i, rest) => (some i, rest)

/-- A state with the Port Unit of another: its ports, its inbound queue and the request in service. -/
def State.withPortUnitOf (s t : State) : State :=
  { s with ports := t.ports, inbound := t.inbound, serving := t.serving }

/-- What the service of a request leaves in the Port Unit (R186, R187): the response is the last of its port's transmit
queue, every other port is as it was when the request was taken, and the arbiter has chosen again. -/
structure Answered (s : State) (i : Instr) (h : Header) (t : State) (r : Reply) : Prop where
  header : i.header = some h
  ports : t.ports = (s.presented i h).ports.put h.port
    { (s.presented i h).ports.get h.port with
      transmit := ((s.presented i h).ports.get h.port).transmit ++ [{ tag := h.tag, code := h.code, reply := r }] }
  arbiter : (t.serving, t.inbound) = nextChoice (s.presented i h).inbound

/-- The commands that act while a full reset holds the part (R180): those at the pins and at the supply. -/
def actsWhileHeld : Instr → Bool
  | .rawInputChange _ _ => true
  | .resetNFalling => true
  | .linkReset _ => true
  | .fullReset => true
  | .fullResetRelease _ => true
  | .powerUp => true
  | .powerUpRelease _ => true
  | .supplyFall => true
  | _ => false

/-- The station after a feed-empty report (R155): a drain is done, anything else stays. -/
def Station.afterFeedEmpty (st : Station) : Station :=
  if st.state = .draining then { st with state := .moving, datumValid := false } else st

/-- The reasons after a feed-empty report (R155): DRAINED is raised when a drain is done. -/
def State.reasonsAfterFeedEmpty (s : State) : BitVec 11 :=
  if s.station.state = .draining then s.reasons ||| Reason.drained.bit else s.reasons

/-- A slot as it stands right after it has become PLACED (R121, R137). -/
def Slot.placedAt (sl : Slot) (now : Time) : Slot :=
  { sl with state := .placed, placedTime := some now, generation := none }

/-- The record of a slot after a verification with the failures given (R143, R144). -/
def Slot.verifiedWith (sl : Slot) (l : List Failure) : Slot :=
  if l = [] then { sl with state := .verified }
  else { sl with state := .rejected, rejectReasons := l.map Failure.reason }

/-! ### The tables of the spec: the first condition that holds gives the outcome -/

/-- A table of the spec as rows (condition, outcome): the outcome of the first row whose condition holds. -/
def FirstOf : List (Prop × Prop) → Prop
  | [] => True
  | (condition, outcome) :: rest => (condition → outcome) ∧ (¬ condition → FirstOf rest)

/-- The answer that the first place of a list gives: `gives i answer` says that place i gives an answer. -/
def FirstAt (gives : Nat → Reply → Prop) (answer : Reply) : Prop :=
  ∃ i, gives i answer ∧ ∀ j < i, ∀ other, ¬ gives j other

/-- The request is answered as given and changes no record (a refusal, a wait, a hold). -/
def AnswersUnchanged (s : State) (i : Instr) (h : Header) (answer : Reply) : Prop :=
  ∃ t, exec i s = .next t ∧ Answered s i h t answer ∧ t = s.withPortUnitOf t

/-- R174: the request is refused with NO_RECORD for a record that is no slot. Its reference event is a fault report, with the
detail given, while strict references is on, and nothing while it is off. -/
def RefusesNoRecord (s : State) (i : Instr) (h : Header) (detail : Int) : Prop :=
  ∃ t, exec i s = .next t ∧ Answered s i h t (Reply.refuse .noRecord) ∧
    (s.params.strictReferences = false → t = s.withPortUnitOf t) ∧
    (s.params.strictReferences = true →
      t.flags = { s.flags with reference := true } ∧
      t.processCapture = offered s.processCapture
        { cls := .reference, severity := 1, time := s.siteTime, slot := none, course := none, port := some h.port
          detail := detail } ∧
      t = { s.withPortUnitOf t with
        flags := t.flags, processCapture := t.processCapture, attn := t.attn, haltReq := t.haltReq })

/-- R184 check 3: the payload lengths of the requests of a port, by code (R189, R191, R192); none for a code that is no
request code of the port (section 11.6). The widths are those of log 14. -/
def fieldLengths (port : Port) (code : Nat) : List Nat :=
  match port, code with
  | .p, 1 => [4] | .p, 2 => [1] | .p, 3 => [2] | .p, 4 => [13] | .p, 5 => [1] | .p, 6 => [7] | .p, 7 => [13, 16]
  | .p, 8 => [7, 11] | .p, 9 => [5] | .p, 10 => [2] | .p, 11 => [4] | .p, 12 => [6] | .p, 13 => [0] | .p, 14 => [2]
  | .p, 15 => [2, 3] | .p, 16 => [2] | .p, 17 => [2] | .p, 18 => [2] | .p, 19 => [3] | .p, 20 => [0] | .p, 21 => [0]
  | .p, 22 => [10] | .p, 23 => [0] | .p, 24 => [0] | .p, 25 => [0] | .p, 26 => [2] | .p, 27 => [2] | .p, 28 => [1]
  | .p, 29 => [1] | .p, 30 => [1]
  | .a, 33 => [0] | .a, 34 => [2] | .a, 35 => [2]
  | .t, 49 => [11] | .t, 50 => [2] | .t, 51 => [11]
  | .f, 65 => [3] | .f, 66 => [3]
  | _, _ => []

/-! ### The commit (02) -/

/-- R31 check 2: what the run of an order gives when it stands outside the wall or before the end of the run before it. -/
def misplacedRun (r : Wall) (runs : List (Int × Int)) (i : Nat) (answer : Reply) : Prop :=
  ∃ run, runs[i]? = some run ∧
    (((run.1 < 0 ∨ r.length < run.2 ∨ run.2 ≤ run.1) ∧ answer = Reply.refusedWith .outOfRange (u8 i)) ∨
      (¬ (run.1 < 0 ∨ r.length < run.2 ∨ run.2 ≤ run.1) ∧
        (∃ before, 0 < i ∧ runs[i - 1]? = some before ∧ run.1 < before.2) ∧
        answer = Reply.refusedWith .runsOverlap (u8 i)))

/-- R32: the run and the course band from base to top each share a tenth with a feature. -/
def runCrosses (run : Int × Int) (base top : Int) (f : Feature) : Prop :=
  (run.1 < f.xb ∧ f.xa < run.2) ∧ base < f.zHead ∧ f.zSill < top

/-- R32 check 3: what the run of an order gives when it crosses a feature of the chain. -/
def crossingRun (chain : List (Nat × Feature)) (base top : Int) (runs : List (Int × Int)) (i : Nat) (answer : Reply) : Prop :=
  ∃ run before e after, runs[i]? = some run ∧ chain = before ++ e :: after ∧
    (∀ b ∈ before, ¬ runCrosses run base top b.2) ∧ runCrosses run base top e.2 ∧
    answer = Reply.refusedWith .crossesOpening (u8 i ++ u8 e.1)

/-- Check 4: what the run of an order gives when the run solve refuses it. -/
def unsolvedRun (k : Kind) (p : Profile) (q : Int) (saw : Bool) (runs : List (Int × Int)) (i : Nat) (answer : Reply) : Prop :=
  ∃ run, runs[i]? = some run ∧ solveRun k p q saw i run.1 run.2 = .error answer

/-- Check 6: what the run of an order gives when the support check refuses one of its slots; the first of them answers. -/
def unsupportedRun (bed : Bed) (plans : List RunPlan) (i : Nat) (answer : Reply) : Prop :=
  ∃ plan, plans[i]? = some plan ∧
    FirstAt (fun j a => ∃ slot, plan.slots[j]? = some slot ∧ supportSlot bed plan.order slot = .error a) answer

/-- R45: the head-joint centres of a live course, from its slots' planned spans. -/
def State.jointBelow (s : State) (below : Course) (x : Int) : Prop :=
  ∃ id ∈ below.runIds.getD [], ∃ run m a b, s.run id = some run ∧ (s.slotsAt run.slotIds)[m]? = some a ∧
    (s.slotsAt run.slotIds)[m + 1]? = some b ∧ x = (s.plannedRight a.2 + b.2.plannedLeft) / 2

/-- R45 check 7: what the run of an order gives when a head joint of it lies nearer than the minimum lap to one below; the
first of them answers, named by the slot on its right. -/
def shortLapRun (s : State) (below : Course) (plans : List RunPlan) (i : Nat) (answer : Reply) : Prop :=
  ∃ plan, plans[i]? = some plan ∧
    FirstAt (fun j a =>
      ∃ left right x, plan.slots[j]? = some left ∧ plan.slots[j + 1]? = some right ∧ s.jointBelow below x ∧
        magnitude ((left.left + left.length + right.left) / 2 - x) < s.params.minimumLap ∧
        a = Reply.refusedWith .lapShort (u8 plan.order ++ u8 (j + 1))) answer

/-- R36, R37, R38: what the run solve gives for a run once a case has given n slots and, for a run that ends in a closer, its
planned length: the limits in order, the test of the joints, and the run with its joints shared out. -/
def SolvedAs (k : Kind) (p : Profile) (q : Int) (saw : Bool) (order : Nat) (start stop n : Int) (closer : Option Int) :
    Prop :=
  let t := stop - start - (n - 1) * k.length - closer.getD k.length
  let b := t / (n - 1)
  let e := t - b * (n - 1)
  FirstOf
    [(96 < n, solveRun k p q saw order start stop = .error (Reply.refusedWith .runTooLong (u8 order))),
      (closer ≠ none ∧ saw = false, solveRun k p q saw order start stop = .error (Reply.refusedWith .noSaw (u8 order))),
      (n ≠ 1 ∧ (b < p.jmin ∨ p.jmax < if 0 < e then b + 1 else b),
        solveRun k p q saw order start stop = .error (Reply.refusedWith .runUnsolvable (u8 order))),
      (True, ∃ plan, solveRun k p q saw order start stop = .ok plan ∧ plan.order = order ∧ plan.start = start ∧
        plan.stop = stop ∧ plan.closerLength = closer ∧ (plan.slots.length : Int) = n ∧
        ∀ (i : Nat) (slot : SlotPlan), plan.slots[i]? = some slot →
          slot.index = i ∧ (slot.closer = true ↔ closer ≠ none ∧ (i : Int) + 1 = n) ∧
          (1 ≤ i → slot.joint = some (if (i : Int) ≤ e then b + 1 else b)))]

/-- R39: identifiers taken lowest first: they rise, each was free, and no lower free one was passed over. -/
def takenLowestFirst (ids : List Nat) (free : Nat → Prop) : Prop :=
  ids.Pairwise (· < ·) ∧ ∀ id ∈ ids, free id ∧ ∀ j < id, free j → j ∈ ids

/-! ### Verification (07) -/

/-- R143 to R145: what a verification does beside the slot's own record. `l` is the list of the checks that fail, `reasons` the
reasons just before it, `entry` the course of the slot. None fails: the course is COMPLETE, and COURSE_COMPLETE is raised, when
it is ACTIVE and all its slots are VERIFIED. One fails: REJECT is set, SLOT_REJECTED is raised, and the geometry capture is
offered the severity of the first code with the deviation of the first geometric one, 0 when there is none. -/
def Judged (s t : State) (id entry : Nat) (port : Port) (reasons : BitVec 11) (l : List Failure) : Prop :=
  (l = [] →
    t.flags = s.flags ∧ t.geometryCapture = s.geometryCapture ∧
    (∀ c, s.course entry = some c → c.state = .active → (∀ e ∈ t.courseSlots c, e.2.state = .verified) →
      t.course entry = some { c with state := .complete } ∧ (∀ j, j ≠ entry → t.course j = s.course j) ∧
      t.reasons = reasons ||| Reason.courseComplete.bit) ∧
    ((∀ c, s.course entry = some c → c.state = .active → ∃ e ∈ t.courseSlots c, e.2.state ≠ .verified) →
      t.courses = s.courses ∧ t.reasons = reasons)) ∧
  ∀ f rest, l = f :: rest →
    t.courses = s.courses ∧ t.flags = { s.flags with reject := true } ∧
    t.reasons = reasons ||| Reason.slotRejected.bit ∧
    t.geometryCapture = offered s.geometryCapture
      { cls := .geometry, severity := f.reason.severity, time := s.siteTime, slot := some id
        course := s.capturedCourse entry, port := some port, detail := (l.findSome? Failure.deviation).getD 0 }

/-- The reasons once the head of the queue has been removed (R108, R109, R155). -/
def State.reasonsAfterHead (s : State) : BitVec 11 := if s.queue.tail = [] then s.reasonsAfterFeedEmpty else s.reasons

/-! ### Invariants of the records -/

/-- A table lists identifiers from `lo` to below `hi`, strictly rising. -/
abbrev Table.canonical {α : Type} (lo hi : Nat) (t : List (Nat × α)) : Prop :=
  (t.Pairwise fun a b => a.1 < b.1) ∧ ∀ e ∈ t, lo ≤ e.1 ∧ e.1 < hi

/-- Every table is in its one form, within its capacity (00 sections 1.6.5 and 1.8). -/
abbrev State.tablesCanonical (s : State) : Prop :=
  Table.canonical 0 4 s.walls ∧ Table.canonical 1 65 s.features ∧ Table.canonical 0 8 s.kinds ∧
    Table.canonical 0 4 s.profiles ∧ Table.canonical 0 courseCapacity s.courses ∧
    Table.canonical 0 runCapacity s.runs ∧ Table.canonical 0 slotCapacity s.slots

/-- R170: ATTN is asserted if and only if some reason is both set and enabled, HALT_REQ if and only if SEQUENCE or PARK_LOST
is set. -/
abbrev State.outputsAgree (s : State) : Prop :=
  (s.attn = true ↔ ∃ p : Fin 11, s.reasons.getLsbD p = true ∧ s.enables.getLsbD p = true) ∧
    (s.haltReq = true ↔ s.flags.sequence = true ∨ s.flags.parkLost = true)

/-- R88: at most 6 entries, each of the current generation, and only the head AT_GRIPPER. -/
abbrev State.queueInForm (s : State) : Prop :=
  s.queue.length ≤ queueCapacity ∧ (∀ e ∈ s.queue, e.generation = s.generation) ∧
    ∀ e ∈ s.queue.tail, e.position = .onBelt

/-- R111: at most one slot is ISSUED or UNCERTAIN. -/
abbrev State.oneInHand (s : State) : Prop := (s.slots.filter fun e => e.2.state.inHand).length ≤ 1

/-- R23: the load record is present exactly while one course entry is LOADING, and it names that entry. -/
abbrev State.loadNamesLoading (s : State) : Prop :=
  ((s.courses.filter fun e => e.2.state = .loading).map Prod.fst) = (s.load.map Load.entry).toList

/-- R21: the live courses of a wall carry the numbers from its base course up to one below its next course number, each
once, and a LOADING course carries the next course number; a CLOSED wall has no course. -/
abbrev State.numbersInOrder (s : State) : Prop :=
  (∀ e ∈ s.courses, (s.wall e.2.wall).isSome) ∧
    ∀ r ∈ s.walls,
      r.2.baseCourse ≤ r.2.nextCourse ∧ r.2.nextCourse ≤ 255 ∧
      ((s.courses.filter fun e => e.2.wall = r.1 ∧ e.2.live).map fun e => e.2.number).Perm
        (List.range' r.2.baseCourse (r.2.nextCourse - r.2.baseCourse)) ∧
      ∀ e ∈ s.courses, e.2.wall = r.1 → e.2.live = false →
        e.2.number = r.2.nextCourse ∧ r.2.nextCourse ≤ 254

/-- R21, R38, R40, R41, R46, R54: a LOADING course has no runs; the runs of a course are live, name it and stand in run order,
and every run stands so in its course; the slots of a run are live, name it and its course and stand by index, and every slot
stands so in its run; a COMPLETE course has only VERIFIED slots; only a closer holds a cut length. -/
structure State.RecordsLinked (s : State) : Prop where
  loading : ∀ e ∈ s.courses, e.2.state = .loading → e.2.runIds = none
  runs : ∀ e ∈ s.courses, ∀ x ∈ (e.2.runIds.getD []).zipIdx,
    (s.run x.1).any (fun r => r.course = e.1 ∧ r.order = x.2) = true
  courseOfRun : ∀ e ∈ s.runs, (s.course e.2.course).any (fun c => e.1 ∈ c.runIds.getD []) = true
  slots : ∀ e ∈ s.runs, ∀ x ∈ e.2.slotIds.zipIdx,
    (s.slot x.1).any (fun sl => sl.run = e.1 ∧ sl.course = e.2.course ∧ sl.index = x.2) = true
  runOfSlot : ∀ e ∈ s.slots, (s.run e.2.run).any (fun r => e.1 ∈ r.slotIds) = true
  complete : ∀ e ∈ s.courses, e.2.state = .complete → ∀ x ∈ s.courseSlots e.2, x.2.state = .verified
  cut : ∀ e ∈ s.slots, e.2.closer = false → e.2.cutLength = none

/-- R2, R7, R9, R10: the openings of the walls. Every feature in use stands in the chain of its own wall, which is OPEN, and
its spans and its lintel are in their ranges; the chain of a wall holds features of that wall alone, ends with a next field of
0 (an empty one has the chain head 0), and stands by ascending x_a and then z_sill, with no two rectangles that overlap. -/
structure State.ChainsLinked (s : State) : Prop where
  inChain : ∀ e ∈ s.features, (s.wall e.2.wall).any (fun r => e ∈ s.chain r ∧ e.2.xb ≤ r.length) = true
  ofWall : ∀ w ∈ s.walls, ∀ e ∈ s.chain w.2, e.2.wall = w.1
  ends : ∀ w ∈ s.walls, ((s.chain w.2).getLast?.map fun e => e.2.next).getD w.2.chainHead = 0
  inOrder : ∀ w ∈ s.walls, (s.chain w.2).Pairwise fun a b =>
    a.2.xa < b.2.xa ∨ (a.2.xa = b.2.xa ∧ a.2.zSill < b.2.zSill)
  apart : ∀ w ∈ s.walls, (s.chain w.2).Pairwise fun a b =>
    ¬ (a.2.xa < b.2.xb ∧ b.2.xa < a.2.xb ∧ a.2.zSill < b.2.zHead ∧ b.2.zSill < a.2.zHead)
  spans : ∀ e ∈ s.features, 0 ≤ e.2.xa ∧ e.2.xa < e.2.xb ∧ 0 ≤ e.2.zSill ∧ e.2.zSill < e.2.zHead ∧ e.2.zHead ≤ 8388607
  lintels : ∀ e ∈ s.features, ∀ l ∈ e.2.lintel,
    e.2.zHead ≤ l.topZ ∧ l.topZ ≤ 8388607 ∧ 0 ≤ l.bearing ∧ l.bearing ≤ 3000

/-- R89: a slot is in the queue's hands while it is FED, ISSUED or UNCERTAIN. -/
def SlotState.queued (st : SlotState) : Bool := st = .fed ∨ st = .issued ∨ st = .uncertain

/-- R89: an entry and the record of its slot agree. -/
def Entry.agrees (e : Entry) (sl : Slot) : Bool :=
  sl.state.queued ∧ sl.generation = some e.generation ∧ sl.kind = e.kind ∧ sl.gauged = some e.gauged ∧
    sl.cutLength = e.cutLength

/-- R88, R89, R111: no two entries name one slot; each entry names a slot that is FED, ISSUED or UNCERTAIN and agrees with its
record; each such slot has an entry; and a slot that is ISSUED or UNCERTAIN is that of the head, which is AT_GRIPPER. -/
abbrev State.queueInStep (s : State) : Prop :=
  (s.queue.map Entry.slot).Nodup ∧ (∀ e ∈ s.queue, (s.slot e.slot).any e.agrees = true) ∧
    (∀ e ∈ s.slots, e.2.state.queued = true → e.1 ∈ s.queue.map Entry.slot) ∧
    ∀ e ∈ s.slots, e.2.state.inHand = true →
      s.queue.head?.any (fun head => head.slot = e.1 ∧ head.position = .atGripper) = true

/-! ### The full reset (10) -/

/-- R180, with R2, R13, R14, R21, R149, R163 to R169, R178, R185: the full-reset values of the records, and the defaults of the
parameters (R17, R18, R118, R141, R153, R174). -/
structure State.AtFullResetValues (s : State) : Prop where
  walls : s.walls = []
  features : s.features = []
  kinds : s.kinds = []
  profiles : s.profiles = []
  geometry : s.params.sawStep = 5 ∧ s.params.minimumLap = 500
  tolerances : s.params.tolX = 30 ∧ s.params.tolY = 20 ∧ s.params.tolZ = 20 ∧ s.params.tolEnd = 40 ∧ s.params.tolJoint = 15
  others : s.params.setTime = 30000 ∧ s.params.maxSkew = 50 ∧ s.params.strictReferences = false
  courses : s.courses = []
  load : s.load = none
  runs : s.runs = []
  slots : s.slots = []
  queue : s.queue = [] ∧ s.generation = 0
  station : s.station =
    { state := .unset, wall := 0, xLo := 0, xHi := 0, zHi := 0, ox := 0, oy := 0, oz := 0, skew := 0, datumValid := false }
  senses : ∀ line, s.senses.get line = .rising
  siteTime : s.siteTime = 0
  flags : ∀ flag, s.flags.get flag = false
  captures : s.processCapture = none ∧ s.geometryCapture = none
  reasons : s.reasons = 0
  enables : ∀ place < 11, s.enables.getLsbD place = decide (place = 6)
  outputs : s.attn = false ∧ s.haltReq = false
  ports : ∀ port, s.ports.get port = { receiver := .hunt, outstanding := false, lastTag := none, transmit := [] }
  arbiter : s.inbound = [] ∧ s.serving = none

/-! ### Invariants of the Port Unit -/

/-- Whether a request came on a port. -/
def cameOn (i : Instr) (port : Port) : Bool := i.header.any fun h => h.port = port

/-- How many requests of a port wait or are being served. -/
def State.unanswered (s : State) (port : Port) : Nat :=
  (s.inbound.countP fun w => cameOn w.request port) + (if s.serving.any fun i => cameOn i port then 1 else 0)

/-- How many responses in a port's transmit queue answer the outstanding request. -/
def PortState.closing (ps : PortState) : Nat := ps.transmit.countP Response.closes

/-- R185, R187: a port has one request that waits, is served or is answered but not yet sent while its outstanding flag is
set, and none while it is clear; its transmit queue holds at most 4 responses, one less while the response to the outstanding
request has not been handed over, and one less while no request is outstanding, for then that response has left. -/
abbrev State.portInForm (s : State) (port : Port) : Prop :=
  s.unanswered port + (s.ports.get port).closing = (if (s.ports.get port).outstanding then 1 else 0) ∧
    (s.ports.get port).transmit.length + s.unanswered port ≤ 4 ∧
    ((s.ports.get port).outstanding = false → (s.ports.get port).transmit.length ≤ 3)

/-- R186: requests wait only while one is being served. -/
abbrev State.arbiterInForm (s : State) : Prop :=
  (s.serving = none → s.inbound = []) ∧ ∀ w ∈ s.inbound, w.passes ≤ 4

/-- The Port Unit's own invariant (R185 to R187). -/
abbrev State.portsInForm (s : State) : Prop :=
  s.portInForm .p ∧ s.portInForm .a ∧ s.portInForm .t ∧ s.portInForm .f ∧ s.arbiterInForm

end Sys2Proof.Machine
end

