-- ==== Sys2Proof/Certificates/Slice0/Obligations.lean ====
section
/-! DEFINITION. The statements about the BL-2. A statement about a request says what its service does, for every state that
serves it (`State.serves`): be it that the request arrived before and is the arbiter's choice, or that it arrives now at a
part that is free (log 1). `Answered` says what the service leaves in the Port Unit, and each statement's last clause is
its frame: the fields that may differ are those written out, all others are those of the state before. -/

section Statements

open Sys2Proof Sys2Proof.Machine

/-! ### The step and the life of a request -/

/-- The command at the front of the queue of waiting commands is taken and run on the state with the queue's rest; with an
empty queue the part idles (the model's choice, log 3). -/
def Obligations.StepRunsTheFrontCommand : Prop :=
  (∀ (c : Instr) (rest : List Instr) (s : State),
      step { s with pending := c :: rest } = exec c { s with pending := rest }) ∧
    ∀ s : State, step { s with pending := [] } = .next { s with pending := [] }

/-- R180: every command, in every state, ends in a next state and leaves the queue of waiting commands alone; and while a
full reset holds the part, only the commands at the pins and at the supply change anything. -/
def Obligations.EveryCommandEndsInANextState : Prop :=
  ∀ (i : Instr) (s : State),
    (∃ t, exec i s = .next t ∧ t.pending = s.pending) ∧
      (s.hold ≠ .running → actsWhileHeld i = false → exec i s = .next s)

/-- R185, R186, R187: what a request finds when it comes. The part serves nothing and nothing waits, and its port has no
request outstanding: it is chosen at once. Something else is served: it joins the inbound queue's tail. In both cases its
port's outstanding flag is set and its TAG is the last tag. Its port has a request outstanding: it is answered OVERRUN with the
last tag if there is room, the OVERRUN fault is reported, and the flag, the last tag, the inbound queue and the request in
service do not change. There is no room when the transmit queue holds 4 responses, or 3 while the response to the outstanding
request, the one that is no OVERRUN answer, has not been handed to it. It waits already (log 1): nothing changes. That an
OVERRUN answer on the feeder port ends with the queue summary, and that the response being sent counts among the four of the
transmit queue, is the model's reading (log 19). -/
def Obligations.RequestsArrive : Prop :=
  ∀ (i : Instr) (h : Header) (s : State), i.header = some h → s.hold = .running →
    (s.serving = none → s.inbound = [] → (s.ports.get h.port).outstanding = false →
      s.serves i = true ∧
        s.presented i h =
          { s with
            serving := some i
            ports := s.ports.put h.port { s.ports.get h.port with outstanding := true, lastTag := some h.tag } }) ∧
    (s.serving ≠ none → s.serving ≠ some i → s.isWaiting i = false → (s.ports.get h.port).outstanding = false →
      exec i s = .next
        { s with
          ports := s.ports.put h.port { s.ports.get h.port with outstanding := true, lastTag := some h.tag }
          inbound := s.inbound ++ [{ request := i, passes := 0 }] }) ∧
    (s.serving ≠ some i → s.isWaiting i = false → (s.ports.get h.port).outstanding = true →
      ∃ t, exec i s = .next t ∧
        t.ports = s.ports.put h.port
          { s.ports.get h.port with
            transmit := (s.ports.get h.port).transmit ++
              if 4 ≤ (s.ports.get h.port).transmit.length ∨
                  ((s.ports.get h.port).transmit.length = 3 ∧
                    ∀ r ∈ (s.ports.get h.port).transmit, r.reply.answer = .overrun) then []
              else
                [{ tag := h.tag, code := h.code
                   reply := s.withSummary h.port (Reply.plain .overrun [(s.ports.get h.port).lastTag.getD 0]) }] } ∧
        t.flags = { s.flags with overrun := true } ∧
        t.processCapture = offered s.processCapture
          { cls := .overrun, severity := 1, time := s.siteTime, slot := none, course := none, port := some h.port
            detail := h.tag.toNat } ∧
        t = { s with
          ports := t.ports, flags := t.flags, processCapture := t.processCapture, attn := t.attn
          haltReq := t.haltReq }) ∧
    (s.serving ≠ some i → s.isWaiting i = true → exec i s = .next s)

/-- R185, R187: the last byte of the response at the head of a port's transmit queue has left: the response leaves the queue,
and the outstanding flag is cleared unless the response was an OVERRUN answer. With an empty queue nothing leaves. R183, R187,
section 11.6: what a response is on the wire: SYNC, the TAG of its request, the request's code plus 128, LEN, the answer byte,
the reason byte, the fields, and the CRC over all but SYNC, high byte first; the answer codes have the values 0..10 and the
reason codes the values 0..50, in the order of the tables. The CRC starts from 0xFFFF, takes each bit, the most significant
first, by the polynomial 0x1021, and has the check value of R183. -/
def Obligations.ResponseSentFreesThePort : Prop :=
  (∀ (port : Port) (s : State), s.hold = .running →
    (∀ (r : Response) (rest : List Response), (s.ports.get port).transmit = r :: rest →
      exec (.responseSent port) s = .next
        { s with
          ports := s.ports.put port
            { s.ports.get port with
              transmit := rest
              outstanding := if r.reply.answer = .overrun then (s.ports.get port).outstanding else false } }) ∧
    ((s.ports.get port).transmit = [] → exec (.responseSent port) s = .next s)) ∧
  (∀ (tag : Byte) (code : Nat) (answer : AnswerCode) (reason : ReasonCode) (detail body : List Byte),
    body =
      [tag, BitVec.ofNat 8 (code + 128), BitVec.ofNat 8 (2 + detail.length), BitVec.ofNat 8 answer.value,
        BitVec.ofNat 8 reason.value] ++ detail →
    ({ tag := tag, code := code, reply := { answer := answer, reason := reason, detail := detail } } : Response).frame =
      [0xA5] ++ body ++ [BitVec.ofNat 8 ((crc body).toNat / 256), BitVec.ofNat 8 (crc body).toNat]) ∧
  [AnswerCode.ok, .held, .wait, .busy, .none, .hold, .refused, .late, .duplicate, .discard, .overrun].map
    AnswerCode.value = List.range 11 ∧
  [ReasonCode.none,
    .outOfRange, .noRecord, .badState, .busy, .noSpace, .inUse, .undefined, .sawStep, .liveCourse, .loading, .lintel,
    .lintelSet,
    .station, .overlap, .built, .courseLimit, .noLoad, .runsOverlap, .crossesOpening, .runTooShort, .runUnsolvable,
    .runTooLong, .noSaw, .supportOverflow,
    .unsupported, .lapShort, .notComplete, .setting, .notLowest, .notRejected, .notLast, .loaded, .wrongKind, .lengthOut,
    .sequence, .armNotReady,
    .notIssued, .notPlaced, .notApplicable, .notParked, .datumRange, .datumSkew, .queueNotEmpty, .halted, .datum, .wind,
    .noBrick, .reach, .predecessor, .support].map ReasonCode.value = List.range 51 ∧
  crc [] = 0xFFFF ∧
  (∀ (bytes : List Byte) (b : Byte),
    crc (bytes ++ [b]) =
      (List.range 8).foldl (fun c _ => if c.msb then (c <<< 1) ^^^ 0x1021 else c <<< 1)
        (crc bytes ^^^ BitVec.ofNat 16 (256 * b.toNat))) ∧
  crc [0x31, 0x32, 0x33, 0x34, 0x35, 0x36, 0x37, 0x38, 0x39] = 0x29B1

/-- R186: the choice of the arbiter while nothing is served. A planner request passed over 4 times, with requests of A, T and
F beside it, is chosen; otherwise the oldest request from A, T or F is, and the pass count of a planner request that waits
rises by one; a planner request that waits alone is chosen. The chosen request leaves the queue, and the others keep their
order. With an empty queue, or while a request is served, nothing changes. With one planner request waiting, passed over at
most 4 times, one of these cases always holds. -/
def Obligations.ArbiterPassesThePlannerFourTimes : Prop :=
  (∀ (before after : List Waiting) (w : Waiting) (s : State), s.serving = none → s.inbound = before ++ w :: after →
    ((w.isPlanner = true ∧ w.passes = 4 ∧ ∀ x ∈ before ++ after, x.isPlanner = false) ∨
      (w.isPlanner = true ∧ w.passes ≤ 4 ∧ before ++ after = []) →
      s.arbitrate = { s with serving := some w.request, inbound := before ++ after }) ∧
    (w.isPlanner = false → (∀ x ∈ before, x.isPlanner = true) →
      (∀ x ∈ before ++ after, x.isPlanner = true → x.passes < 4) →
      s.arbitrate =
        { s with
          serving := some w.request
          inbound := (before ++ after).map fun x => if x.isPlanner then { x with passes := x.passes + 1 } else x })) ∧
  (∀ s : State, s.serving ≠ none ∨ s.inbound = [] → s.arbitrate = s) ∧
  ∀ (w : Waiting) (s : State), s.serving = none → s.inbound.filter Waiting.isPlanner = [w] → w.passes ≤ 4 →
    (s.arbitrate.serving = some w.request ∧ (w.passes = 4 ∨ s.inbound = [w])) ∨
      ∃ o, (s.inbound.filter fun x => !x.isPlanner).head? = some o ∧ w.passes < 4 ∧
        s.arbitrate.serving = some o.request ∧
        s.arbitrate.inbound.filter Waiting.isPlanner = [{ w with passes := w.passes + 1 }]

/-! ### Frames -/

/-- R183, R184, R189, R191, R192: the payload that carries a well-formed request is at most 64 bytes, and the frame's port,
TAG, CODE and payload are read as that request and no other. The widths of its fields are those of log 14, and a CONFIG PARAM
of a number that names no parameter is carried by CONFIG_PARAM_EDGE_SENSE (log 16). -/
def Obligations.WellFormedRequestsAreDecoded : Prop :=
  ∀ (i : Instr) (h : Header), i.wellFormed = true → i.header = some h →
    i.payload.length ≤ 64 ∧ decodeRequest h.port h.tag h.code i.payload = some i

/-- R184, R185: the bytes of a well-formed request's frame, received from HUNT, hand on exactly that request: the state is
that in which it has arrived. The widths of the frame's fields are those of log 14. -/
def Obligations.FrameOfARequestArrives : Prop :=
  ∀ (i : Instr) (h : Header) (frame : List Byte) (s : State), i.wellFormed = true → i.header = some h →
    i.frame = some frame → s.hold = .running → (s.ports.get h.port).receiver = .hunt →
    exec (.frameReceived h.port frame) s = .next (s.arrive i h)

/-- R184: a frame whose CRC does not match, one whose LEN is above 64, one whose CRC matches but whose CODE is no request code
of the port or whose LEN is not a length of the request's fields (widths of log 14), and one in which a stop bit is low or
more than 1 ms passes, is dropped: the receiver is in HUNT and nothing else has changed. -/
def Obligations.BadFramesAreDropped : Prop :=
  ∀ (port : Port) (s : State), s.hold = .running →
    (∀ (tag code : Byte) (payload : List Byte) (c : BitVec 16), (s.ports.get port).receiver = .hunt →
      payload.length ≤ 64 → c ≠ crc (tag :: code :: BitVec.ofNat 8 payload.length :: payload) →
      exec (.frameReceived port
        (sync :: tag :: code :: BitVec.ofNat 8 payload.length :: payload ++ bytes16 c)) s = .next s) ∧
    (∀ tag code len : Byte, (s.ports.get port).receiver = .hunt → 64 < len.toNat →
      exec (.frameReceived port [sync, tag, code, len]) s = .next s) ∧
    (∀ (tag code : Byte) (payload : List Byte), (s.ports.get port).receiver = .hunt → payload.length ≤ 64 →
      payload.length ∉ fieldLengths port code.toNat →
      exec (.frameReceived port (frameBytes tag code.toNat payload)) s = .next s) ∧
    ∀ i, i = .stopBitLow port ∨ i = .interByteTimeout port →
      exec i s = .next { s with ports := s.ports.put port { s.ports.get port with receiver := .hunt } }

/-! ### Faults, captures, reasons and outputs -/

/-- R170: after a full reset both outputs are deasserted, and every step keeps ATTN asserted exactly while some reason is both
set and enabled, and HALT_REQ exactly while SEQUENCE or PARK_LOST is set. -/
def Obligations.OutputsFollowReasonsAndFlags : Prop :=
  (State.reset.attn = false ∧ State.reset.haltReq = false ∧ State.reset.outputsAgree) ∧
    ∀ s t : State, s.outputsAgree → step s = .next t → t.outputsAgree

/-- The invariants of the records and of the Port Unit hold right after a full reset. -/
def Obligations.ResetMeetsTheInvariants : Prop :=
  State.reset.tablesCanonical ∧ State.reset.queueInForm ∧ State.reset.oneInHand ∧ State.reset.loadNamesLoading ∧
    State.reset.numbersInOrder ∧ State.reset.portsInForm ∧ State.reset.RecordsLinked ∧ State.reset.queueInStep ∧
    State.reset.ChainsLinked

/-- R164, R166: a report sets its flag, offers its fault to the capture of its kind, which takes it when empty or when the
fault is strictly more severe than what it holds, raises its reason, and leaves the outputs as R170 derives them. A capture
that starts empty therefore holds the earliest of the most severe faults offered to it. -/
def Obligations.CaptureHoldsTheEarliestOfTheMostSevere : Prop :=
  (∀ (s : State) (r : Report), ∃ c : Captured,
      c = { cls := r.flag.faultClass, severity := r.severity, time := s.siteTime, slot := r.slot, course := r.course
            port := r.port, detail := r.detail } ∧
      (s.report r).flags = s.flags.put r.flag true ∧
      (s.report r).processCapture = (if r.flag = .reject then s.processCapture else offered s.processCapture c) ∧
      (s.report r).geometryCapture = (if r.flag = .reject then offered s.geometryCapture c else s.geometryCapture) ∧
      (s.report r).reasons = s.reasons ||| ((r.flag.reason (s.flags.get r.flag)).map Reason.bit).getD 0 ∧
      (s.report r).outputsAgree) ∧
    ∀ faults : List Captured, faults ≠ [] →
      ∃ before c after, faults = before ++ c :: after ∧ faults.foldl (fun held f => offered held f) none = some c ∧
        (∀ f ∈ before, f.severity < c.severity) ∧ ∀ f ∈ after, f.severity ≤ c.severity

/-- R169, R172: ENABLE writes the whole enable set, and ACKNOWLEDGE clears each named reason and no other; each answers OK
with the set as it then stands. A set that names a reason outside the eleven is refused with OUT_OF_RANGE. R168, R189: the
places of the reasons, 0 to 10 in the order of the table, the set that holds one reason, its place's bit, and the reason of
each line. That the set in an answer has the 2-byte form of the requests' set is the model's choice (log 26). -/
def Obligations.EnableAndAcknowledge : Prop :=
  (∀ (tag : Byte) (set : BitVec 16) (s : State),
    (s.serves (.enable tag set) = true → set.toNat < 2048 →
      ∃ t, exec (.enable tag set) s = .next t ∧
        Answered s (.enable tag set) ⟨.p, tag, 27⟩ t (Reply.okWith (reasonsField t.enables)) ∧
        t.enables = set.setWidth 11 ∧
        t = { s.withPortUnitOf t with enables := t.enables, attn := t.attn, haltReq := t.haltReq }) ∧
    (s.serves (.acknowledge tag set) = true → set.toNat < 2048 →
      ∃ t, exec (.acknowledge tag set) s = .next t ∧
        Answered s (.acknowledge tag set) ⟨.p, tag, 26⟩ t (Reply.okWith (reasonsField t.reasons)) ∧
        (∀ place < 11, t.reasons.getLsbD place = (s.reasons.getLsbD place && !set.getLsbD place)) ∧
        t = { s.withPortUnitOf t with reasons := t.reasons, attn := t.attn, haltReq := t.haltReq }) ∧
    (∀ i code, (i = .enable tag set ∧ code = 27) ∨ (i = .acknowledge tag set ∧ code = 26) → s.serves i = true →
      2048 ≤ set.toNat →
      ∃ t, exec i s = .next t ∧ Answered s i ⟨.p, tag, code⟩ t (Reply.refuse .outOfRange) ∧ t = s.withPortUnitOf t)) ∧
    [Reason.drained, .courseComplete, .slotRejected, .slotUncertain, .datumLost, .loadTimeout, .fault, .lineArm, .lineParked,
      .lineGround, .lineWind].map Reason.place = List.range 11 ∧
    [Line.armReady, .truckParked, .groundShift, .windHold].map lineReason =
      [Reason.lineArm, .lineParked, .lineGround, .lineWind] ∧
    (∀ (r : Reason), ∀ place < 11, r.bit.getLsbD place = decide (place = r.place)) ∧
    ∀ reasons : BitVec 11, reasonsField reasons = [BitVec.ofNat 8 (reasons.toNat / 256), BitVec.ofNat 8 reasons.toNat]

/-- R167, R173: CLEAR FAULT clears the flag named, but for SEQUENCE while the feed queue holds entries and PARK_LOST while the
station is not PARKED; CAPTURE CLEAR returns the capture named and empties it. That the two conditions refuse even when the
flag is already clear is the model's choice (log 23). A number that names no flag or no capture is refused with OUT_OF_RANGE.
R189: the six flags stand in one byte, from bit 0 in the order of the table. What a capture carries is spelled out: nothing
but the byte 1 when it is empty (log 24), else the fields of R165, the port by a free value (log 10); the bits of a detail
that does not fit in 24 signed bits, which the deviation of a measurement at an end of its range may be, are a free value too
(log 12). -/
def Obligations.ClearFaultAndCaptureClear : Prop :=
  (∀ (tag : Byte) (n : Nat) (flag : FaultFlag) (s : State), s.serves (.clearFault tag n) = true →
      (n, flag) ∈ [(1, FaultFlag.sequence), (2, .parkLost), (3, .loadTimeout), (4, .overrun), (5, .reference), (6, .reject)] →
      (flag = .sequence → s.queue = []) → (flag = .parkLost → s.station.state = .parked) →
      ∃ t, exec (.clearFault tag n) s = .next t ∧
        Answered s (.clearFault tag n) ⟨.p, tag, 28⟩ t (Reply.okWith t.flags.field) ∧
        t.flags = s.flags.put flag false ∧
        t = { s.withPortUnitOf t with flags := t.flags, attn := t.attn, haltReq := t.haltReq }) ∧
    (∀ (tag : Byte) (s : State), s.serves (.clearFault tag 1) = true → s.queue ≠ [] →
      ∃ t, exec (.clearFault tag 1) s = .next t ∧
        Answered s (.clearFault tag 1) ⟨.p, tag, 28⟩ t (Reply.refusedWith .queueNotEmpty (u8 s.queue.length)) ∧
        t = s.withPortUnitOf t) ∧
    (∀ (tag : Byte) (s : State), s.serves (.clearFault tag 2) = true → s.station.state ≠ .parked →
      ∃ t, exec (.clearFault tag 2) s = .next t ∧
        Answered s (.clearFault tag 2) ⟨.p, tag, 28⟩ t (Reply.refusedWith .badState (u8 s.station.state.value)) ∧
        t = s.withPortUnitOf t) ∧
    (∀ (tag : Byte) (s : State), s.serves (.captureClear tag 1) = true →
      ∃ t, exec (.captureClear tag 1) s = .next t ∧
        Answered s (.captureClear tag 1) ⟨.p, tag, 30⟩ t (Reply.okWith (captureField s.processCapture)) ∧
        t = { s.withPortUnitOf t with processCapture := none }) ∧
    (∀ (tag : Byte) (s : State), s.serves (.captureClear tag 2) = true →
      ∃ t, exec (.captureClear tag 2) s = .next t ∧
        Answered s (.captureClear tag 2) ⟨.p, tag, 30⟩ t (Reply.okWith (captureField s.geometryCapture)) ∧
        t = { s.withPortUnitOf t with geometryCapture := none }) ∧
    (∀ (tag : Byte) (n : Nat) (s : State),
      (s.serves (.clearFault tag n) = true → n < 1 ∨ 6 < n →
        AnswersUnchanged s (.clearFault tag n) ⟨.p, tag, 28⟩ (Reply.refuse .outOfRange)) ∧
      (s.serves (.captureRead tag n) = true → n < 1 ∨ 2 < n →
        AnswersUnchanged s (.captureRead tag n) ⟨.p, tag, 29⟩ (Reply.refuse .outOfRange)) ∧
      (s.serves (.captureClear tag n) = true → n < 1 ∨ 2 < n →
        AnswersUnchanged s (.captureClear tag n) ⟨.p, tag, 30⟩ (Reply.refuse .outOfRange))) ∧
    (∀ f : FaultFlags, ∃ b : Byte, f.field = [b] ∧
      ∀ i < 8, b.getLsbD i =
        (([f.sequence, f.parkLost, f.loadTimeout, f.overrun, f.reference, f.reject] : List Bool)[i]?).getD false) ∧
    captureField none = [1] ∧
    ∀ (c : Captured) (cls : Nat),
      (c.cls, cls) ∈ [(FaultClass.sequence, 1), (.parkLost, 2), (.loadTimeout, 3), (.overrun, 4), (.reference, 5),
        (.geometry, 6)] →
      captureField (some c) =
        [0] ++ u8 cls ++ u8 c.severity ++ bytes32 c.time ++ optField 2 u16 c.slot ++
          optField 3 (fun (k : CapturedCourse) => u8 k.entry ++ u8 k.wall ++ u8 k.number) c.course ++
          optField 1 (fun (port : Port) => [Config.portCode port]) c.port ++ s24Field c.detail

/-- R62, R174: a request that names a slot id of 512 or more is refused with OUT_OF_RANGE, and nothing changes; one that names
a FREE slot is refused with NO_RECORD and the slot id, and it is a fault report, of class REFERENCE, only while strict
references is on. -/
def Obligations.FreeSlotIsAReferenceEvent : Prop :=
  ∀ (i : Instr) (h : Header) (id : Nat) (s : State), i.header = some h →
    (i = .slotRead h.tag id ∨ i = .accept h.tag id ∨ i = .relay h.tag id ∨ i = .placed h.tag id ∨ i = .decline h.tag id ∨
      i = .absent h.tag id ∨ ∃ x y z, i = .measure h.tag id x y z) →
    s.serves i = true →
    (512 ≤ id → AnswersUnchanged s i h (Reply.refuse .outOfRange)) ∧
    (id < 512 → s.slot id = none →
    ∃ t, exec i s = .next t ∧ Answered s i h t (Reply.refusedWith .noRecord (u16 id)) ∧
      (s.params.strictReferences = false → t = s.withPortUnitOf t) ∧
      (s.params.strictReferences = true →
        t.flags = { s.flags with reference := true } ∧
        t.processCapture = offered s.processCapture
          { cls := .reference, severity := 1, time := s.siteTime, slot := some id, course := none, port := some h.port
            detail := (4 * 65536 + id : Nat) } ∧
        t = { s.withPortUnitOf t with
          flags := t.flags, processCapture := t.processCapture, attn := t.attn, haltReq := t.haltReq }))

/-! ### Reads -/

/-- R6, R20, R63, R64, R87, R110, R162, R167, R171: each read of a record that is there, COURSE READ with and without a run
order and WALL READ of a CLOSED wall among them, answers OK with the record as it stands, and changes nothing. R192: the
answer to SLOT READ, byte by byte, 54 bytes in all. R86: the figures of RUN SLACK are worked from the first slot of the run
that is not laid. R1, R20, R62, R64, R85: what refuses WALL READ, CONFIG READ, COURSE READ and RUN SLACK, in order; a table
byte that names no table is refused with OUT_OF_RANGE (log 25). The time that COURSE READ gives for an open joint is T_open
less the milliseconds since its deadline was set (R64, R126, R127), and 0 once the deadline has passed, which is the model's
choice (log 4). The bytes are those of the model's readings: free values for bytes without a code (logs 10, 11) and for values
too wide for their field (log 12), widths (log 14), layouts (log 15), one presence byte for the slot in hand (log 22), parts
left off (log 24), the sets of STATUS in 2 bytes each (log 26). -/
def Obligations.ReadsChangeNothing : Prop :=
  (∀ (tag : Byte) (s : State) (i : Instr) (code : Nat) (fields : List Byte), s.serves i = true →
    ((∃ w start r, i = .wallRead tag w start ∧ code = 3 ∧ w ≤ 3 ∧ s.wall w = some r ∧
        fields = u8 1 ++ s24Field r.length ++ u8 r.nextCourse ++ u8 r.baseCourse ++ s24Field r.settledTop ++
          u8 (s.chain r).length ++ (((s.chain r).drop start).take 2).flatMap (fun e =>
            u8 e.1 ++ s24Field e.2.xa ++ s24Field e.2.xb ++ s24Field e.2.zSill ++ s24Field e.2.zHead ++
              optField 6 (fun (l : Lintel) => s24Field l.topZ ++ s24Field l.bearing) e.2.lintel) ++ u8 start) ∨
      (∃ w start, i = .wallRead tag w start ∧ code = 3 ∧ w ≤ 3 ∧ s.wall w = none ∧
        fields = u8 0 ++ s24Field 0 ++ u8 0 ++ u8 0 ++ s24Field 0 ++ u8 0 ++ u8 start) ∨
      (∃ n v, i = .configRead tag 3 n ∧ code = 10 ∧
        (n, v) ∈ [(2, s.params.minimumLap), (3, s.params.tolX), (4, s.params.tolY), (5, s.params.tolZ),
          (6, s.params.tolEnd), (7, s.params.tolJoint), (8, (s.params.setTime : Int)), (9, s.params.maxSkew),
          (10, if s.params.strictReferences then 1 else 0), (11, if s.senses.arm = .falling then 1 else 0),
          (12, if s.senses.parked = .falling then 1 else 0), (13, if s.senses.ground = .falling then 1 else 0),
          (14, if s.senses.wind = .falling then 1 else 0)] ∧
        fields = s32 v) ∨
      (i = .configRead tag 3 1 ∧ code = 10 ∧ fields = s32 s.params.sawStep ++ yesNo s.sawFitted) ∨
      (∃ n k, i = .configRead tag 1 n ∧ code = 10 ∧ n ≤ 7 ∧ Table.find s.kinds n = some k ∧
        fields = yesNo true ++ s24Field k.length ++ s24Field k.height ++ s24Field k.bedDepth ++ s24Field k.cmin ++
          s24Field k.lt ++ yesNo (s.kindInUse n)) ∨
      (∃ n k, i = .configRead tag 2 n ∧ code = 10 ∧ n ≤ 3 ∧ Table.find s.profiles n = some k ∧
        fields = yesNo true ++ jointField k.jn ++ jointField k.jmin ++ jointField k.jmax ++ s24Field k.bn ++
          u32 k.tOpen ++ yesNo (s.profileInUse n)) ∨
      (∃ w n e c, i = .courseRead tag w n none ∧ code = 15 ∧ w ≤ 3 ∧ n ≤ 255 ∧ (s.wall w).isSome ∧
        s.heldCourse w n = some (e, c) ∧ 
        fields = s.courseField e c ++
          (if c.state = .loading then u8 ((s.load.map fun l => l.received.length).getD 0) else [])) ∨
      (∃ w n o e c id r, i = .courseRead tag w n (some o) ∧ code = 15 ∧ w ≤ 3 ∧ n ≤ 255 ∧ o < c.runCount ∧
        c.live = true ∧ (s.wall w).isSome ∧ s.heldCourse w n = some (e, c) ∧ (c.runIds.getD [])[o]? = some id ∧
        s.run id = some r ∧
        fields = s.courseField e c ++ u8 id ++ s24Field r.start ++ s24Field r.stop ++ u16 r.n ++ u16 r.firstSlot ++
          optField 2 brickField r.closerLength ++ yesNo r.closerCommitted ++
          optField 5 (fun (j : OpenJoint) =>
              u8 j.index ++ u32 ((s.profile c.profile).tOpen -
                (s.siteTime - (j.deadline - BitVec.ofNat 32 (s.profile c.profile).tOpen)).toNat)) r.openJoint) ∨
      (∃ id sl, i = .slotRead tag id ∧ code = 16 ∧ id < 512 ∧ s.slot id = some sl ∧
        fields = u16 id ++ u8 sl.course ++ u8 (s.courseOf sl).wall ++ u8 (s.courseOf sl).number ++ u8 sl.run ++
          u8 (s.runOf sl).order ++ u8 sl.index ++ u8 sl.kind ++ u8 sl.state.value ++
          flagsByte [sl.closer, sl.lintelSupported, sl.reapply, sl.predicted, sl.clamped, sl.cold, sl.accepted] ++
          flagsByte [sl.plannedJoint.isSome, sl.cutLength.isSome, sl.generation.isSome, sl.gauged.isSome,
            sl.targetLeft.isSome, sl.placedTime.isSome, sl.measurement.isSome, sl.rejectReasons ≠ []] ++
          s24Field sl.plannedLeft ++ u8 (sl.plannedJoint.getD 0).toNat ++
          u16 (if sl.closer then (s.runOf sl).closerLength.getD 0 else (s.kind sl.kind).length).toNat ++
          u8 sl.supports.length ++ ((sl.supports ++ [0, 0, 0, 0]).take 4).flatMap u16 ++ u16 (sl.cutLength.getD 0).toNat ++
          [sl.generation.getD 0] ++ u16 (sl.gauged.getD 0).toNat ++ s24Field (sl.targetLeft.getD 0) ++
          u8 (sl.targetJoint.getD 0).toNat ++ bytes32 (sl.placedTime.getD 0) ++
          s24Field ((sl.measurement.map Measurement.xRight).getD 0) ++
          s24Field ((sl.measurement.map Measurement.yOff).getD 0) ++
          s24Field ((sl.measurement.map Measurement.zTop).getD 0) ++
          flagsByte [.joint ∈ sl.rejectReasons, .position ∈ sl.rejectReasons, .endFace ∈ sl.rejectReasons,
            .plane ∈ sl.rejectReasons, .height ∈ sl.rejectReasons, .missing ∈ sl.rejectReasons,
            .coldJoint ∈ sl.rejectReasons] ++
          u16 (s.currentLength sl).toNat) ∨
      (∃ w n o e c id r, i = .runSlack tag w n o ∧ code = 19 ∧ w ≤ 3 ∧ n ≤ 255 ∧ o ≤ 7 ∧ o < c.runCount ∧
        c.live = true ∧ (s.wall w).isSome ∧ s.heldCourse w n = some (e, c) ∧ (c.runIds.getD [])[o]? = some id ∧
        s.run id = some r ∧ fields = s.slackField w n o c id r) ∨
      (i = .queueRead tag ∧ code = 21 ∧
        fields = [s.generation] ++ u8 s.queue.length ++
          optField 2 (fun (e : Nat × Slot) => u16 e.1)
            (if s.station.state = .parked ∨ s.station.state = .draining then s.candidate else none) ++
          s.queue.flatMap fun e =>
            [e.generation] ++ u16 e.slot ++ u8 e.kind ++ u16 e.gauged.toNat ++ u16 (e.cutLength.getD 0).toNat ++
              u8 ((if e.cutLength.isSome then 1 else 0) + (if e.position = .atGripper then 2 else 0) +
                4 * ((s.slot e.slot).map fun sl => sl.state.value).getD 0)) ∨
      (i = .stationRead tag ∧ code = 24 ∧
        fields = u8 s.station.state.value ++ u8 s.station.wall ++ s24Field s.station.xLo ++ s24Field s.station.xHi ++
          s24Field s.station.zHi ++ s24Field s.station.ox ++ s24Field s.station.oy ++ s24Field s.station.oz ++
          s16 s.station.skew ++ yesNo s.station.datumValid ++ u8 s.queue.length ++
          optField 3 (fun (e : Nat × Slot) => u16 e.1 ++ u8 e.2.state.value) s.inHand) ∨
      (i = .status tag ∧ code = 25 ∧
        fields = reasonsField s.reasons ++ reasonsField s.enables ++
          flagsByte [s.flags.sequence, s.flags.parkLost, s.flags.loadTimeout, s.flags.overrun, s.flags.reference,
            s.flags.reject] ++ u8 s.station.state.value ++ yesNo s.station.datumValid ++ u8 s.queue.length ++
          optField 3 (fun (e : Nat × Slot) => u16 e.1 ++ u8 e.2.state.value) s.inHand ++
          flagsByte [s.reasons.getLsbD 7, s.reasons.getLsbD 8, s.reasons.getLsbD 9, s.reasons.getLsbD 10] ++
          bytes32 s.siteTime ++ yesNo s.processCapture.isNone ++ yesNo s.geometryCapture.isNone) ∨
      (i = .captureRead tag 1 ∧ code = 29 ∧ fields = captureField s.processCapture) ∨
      (i = .captureRead tag 2 ∧ code = 29 ∧ fields = captureField s.geometryCapture)) →
    ∃ t, exec i s = .next t ∧ Answered s i ⟨.p, tag, code⟩ t (Reply.okWith fields) ∧ t = s.withPortUnitOf t) ∧
  (∀ (s : State) (id : Nat) (sl : Slot), (Reply.okWith (s.slotField id sl)).payload.length = 54) ∧
  (∀ (s : State) (e : Nat) (c : Course),
    s.courseField e c =
      u8 e ++ u8 (if c.state = .loading then 1 else if c.state = .active then 2 else 3) ++ u8 c.kind ++ u8 c.profile ++
        s24Field c.baseZ ++ s24Field (c.baseZ + (s.kind c.kind).height) ++ u8 c.runCount ++
        optField c.runCount (fun (ids : List Nat) => ids.flatMap u8) c.runIds ++
        [SlotState.planned, .fed, .issued, .uncertain, .placed, .verified, .rejected].flatMap fun st =>
          u16 ((s.courseSlots c).filter fun x => x.2.state = st).length) ∧
  [SlotState.planned, .fed, .issued, .uncertain, .placed, .verified, .rejected].map SlotState.value = [1, 2, 3, 4, 5, 6, 7] ∧
  [StationState.unset, .parked, .draining, .moving, .lost].map StationState.value = [1, 2, 3, 4, 5] ∧
  (∀ (tag : Byte) (w start : Nat) (s : State), s.serves (.wallRead tag w start) = true → 3 < w →
    AnswersUnchanged s (.wallRead tag w start) ⟨.p, tag, 3⟩ (Reply.refuse .outOfRange)) ∧
  (∀ (tag : Byte) (table n : Nat) (s : State) (i : Instr) (h : Header), i = .configRead tag table n → h = ⟨.p, tag, 10⟩ →
    s.serves i = true →
    FirstOf
      [((table = 1 ∧ 7 < n) ∨ (table = 2 ∧ 3 < n) ∨ (table = 3 ∧ (n < 1 ∨ 14 < n)) ∨ table < 1 ∨ 3 < table,
          AnswersUnchanged s i h (Reply.refuse .outOfRange)),
        (table = 1 ∧ Table.find s.kinds n = none, RefusesNoRecord s i h (2 * 65536 + (100 + n) : Nat)),
        (table = 2 ∧ Table.find s.profiles n = none, RefusesNoRecord s i h (2 * 65536 + (200 + n) : Nat))]) ∧
  (∀ (tag : Byte) (w n : Nat) (order : Option Nat) (s : State) (i : Instr) (h : Header),
    i = .courseRead tag w n order → h = ⟨.p, tag, 15⟩ → s.serves i = true →
    FirstOf
      [(¬ (w ≤ 3 ∧ n ≤ 255), AnswersUnchanged s i h (Reply.refuse .outOfRange)),
        (s.wall w = none, RefusesNoRecord s i h (1 * 65536 + w : Nat)),
        (∀ e ∈ s.courses, ¬ (e.2.wall = w ∧ e.2.number = n), RefusesNoRecord s i h (3 * 65536 + (w * 256 + n) : Nat)),
        (∃ o e c, order = some o ∧ s.heldCourse w n = some (e, c) ∧ (c.state = .loading ∨ c.runCount ≤ o),
          AnswersUnchanged s i h (Reply.refuse .outOfRange))]) ∧
  (∀ (tag : Byte) (w n o : Nat) (s : State) (i : Instr) (h : Header), i = .runSlack tag w n o → h = ⟨.p, tag, 19⟩ →
    s.serves i = true →
    FirstOf
      [(¬ (w ≤ 3 ∧ n ≤ 255 ∧ o ≤ 7), AnswersUnchanged s i h (Reply.refuse .outOfRange)),
        (s.wall w = none, RefusesNoRecord s i h (1 * 65536 + w : Nat)),
        (∀ e ∈ s.courses, ¬ (e.2.wall = w ∧ e.2.number = n), RefusesNoRecord s i h (3 * 65536 + (w * 256 + n) : Nat)),
        (∃ e c, s.heldCourse w n = some (e, c) ∧ (c.state = .loading ∨ c.runCount ≤ o),
          AnswersUnchanged s i h (Reply.refuse .outOfRange))]) ∧
  ∀ (s : State) (w number order : Nat) (c : Course) (id : Nat) (r : Run) (k : Nat) (face joints g : Int)
      (measured : Option Bool),
    k ≤ (s.slotsAt r.slotIds).length →
    (∀ j e, j < k → (s.slotsAt r.slotIds)[j]? = some e → e.2.state = .placed ∨ e.2.state = .verified) →
    (∀ e, (s.slotsAt r.slotIds)[k]? = some e → e.2.state ≠ .placed ∧ e.2.state ≠ .verified) →
    ((k = 0 ∧ face = r.start ∧ joints = (r.n : Int) - 1 ∧ measured = none) ∨
      (1 ≤ k ∧ k ≤ r.n ∧ ∃ e f m, (s.slotsAt r.slotIds)[k - 1]? = some e ∧ s.knownFace e.2 = some (f, m) ∧
        face = (if k < r.n then max (-7888608) (min 7884357 f) else f) ∧ joints = (r.n : Int) - k ∧
        measured = some m)) →
    g = r.stop - face - ((s.slotsAt (r.slotIds.drop k)).map fun e => s.currentLength e.2).sum →
    s.slackField w number order c id r =
      u8 w ++ u8 number ++ u8 order ++ u8 id ++ u8 k ++ u8 joints.toNat ++ s24Field g ++
        s24Field (g - joints * (s.profile c.profile).jmin) ++ s24Field (joints * (s.profile c.profile).jmax - g) ++
        [Config.faceCode measured] ++ yesNo r.closerCommitted ++
        optField 2 brickField (if r.closerCommitted
          then (s.slotsAt r.slotIds).getLast?.bind fun e => e.2.cutLength else none) ++
        optField 2 brickField (if r.closerCommitted then none else r.closerLength)

/-! ### Walls, openings, kinds, profiles, parameters -/

/-- R3: WALL OPEN of a CLOSED wall sets its length and starts its chain, its course numbers and its heights from nothing; an
OPEN wall is refused with BAD_STATE and keeps its record. R1: a wall or a length out of range is refused with OUT_OF_RANGE. -/
def Obligations.WallOpenStartsTheWall : Prop :=
  (∀ (tag : Byte) (w : Nat) (length : Int) (s : State), s.serves (.wallOpen tag w length) = true →
    3 < w ∨ length < 1000 ∨ 200000 < length →
    AnswersUnchanged s (.wallOpen tag w length) ⟨.p, tag, 1⟩ (Reply.refuse .outOfRange)) ∧
  ∀ (tag : Byte) (w : Nat) (length : Int) (s : State), s.serves (.wallOpen tag w length) = true → w ≤ 3 →
    1000 ≤ length → length ≤ 200000 →
    (s.wall w = none →
      ∃ t, exec (.wallOpen tag w length) s = .next t ∧
        Answered s (.wallOpen tag w length) ⟨.p, tag, 1⟩ t Reply.okay ∧
        t.wall w = some { length := length, chainHead := 0, nextCourse := 0, baseCourse := 0, settledTop := 0 } ∧
        (∀ v, v ≠ w → t.wall v = s.wall v) ∧ t = { s.withPortUnitOf t with walls := t.walls }) ∧
    (s.wall w ≠ none →
      ∃ t, exec (.wallOpen tag w length) s = .next t ∧
        Answered s (.wallOpen tag w length) ⟨.p, tag, 1⟩ t (Reply.refuse .badState) ∧ t = s.withPortUnitOf t)

/-- R4, R5: WALL CLOSE of a wall without live course, open load, lintel or station in use returns every feature of its chain
to the pool and closes the wall. Otherwise it is refused by the first of those four conditions, and before them (R1) with
OUT_OF_RANGE for a wall out of range and with NO_RECORD for a CLOSED one. -/
def Obligations.WallCloseFreesTheOpenings : Prop :=
  (∀ (tag : Byte) (w : Nat) (r : Wall) (s : State), s.serves (.wallClose tag w) = true → w ≤ 3 → s.wall w = some r →
    (∀ e ∈ s.courses, e.2.wall = w → e.2.live = false) →
    (∀ l, s.load = some l → ∀ c, s.course l.entry = some c → c.wall ≠ w) →
    (∀ e ∈ s.chain r, e.2.lintel = none) →
    (s.station.wall = w → s.station.state ≠ .parked ∧ s.station.state ≠ .draining) →
    ∃ t, exec (.wallClose tag w) s = .next t ∧
      Answered s (.wallClose tag w) ⟨.p, tag, 2⟩ t (Reply.okWith (u8 (s.chain r).length)) ∧
      t.wall w = none ∧ (∀ v, v ≠ w → t.wall v = s.wall v) ∧
      (∀ k, t.feature k = if (s.chain r).any (fun e => e.1 = k) then none else s.feature k) ∧
      t = { s.withPortUnitOf t with walls := t.walls, features := t.features }) ∧
  (∀ (tag : Byte) (w : Nat) (s : State) (i : Instr) (h : Header), i = .wallClose tag w → h = ⟨.p, tag, 2⟩ →
    s.serves i = true →
    FirstOf
      [(3 < w, AnswersUnchanged s i h (Reply.refuse .outOfRange)),
        (s.wall w = none, RefusesNoRecord s i h (1 * 65536 + w : Nat))]) ∧
  ∀ (tag : Byte) (w : Nat) (r : Wall) (s : State) (i : Instr) (h : Header), i = .wallClose tag w → h = ⟨.p, tag, 2⟩ →
    s.serves i = true → w ≤ 3 → s.wall w = some r →
    FirstOf
      [(∃ e ∈ s.courses, e.2.wall = w ∧ e.2.live = true, AnswersUnchanged s i h (Reply.refuse .liveCourse)),
        (∃ l c, s.load = some l ∧ s.course l.entry = some c ∧ c.wall = w,
          AnswersUnchanged s i h (Reply.refuse .loading)),
        (∃ e ∈ s.chain r, e.2.lintel ≠ none, AnswersUnchanged s i h (Reply.refuse .lintel)),
        (s.station.wall = w ∧ (s.station.state = .parked ∨ s.station.state = .draining),
          AnswersUnchanged s i h (Reply.refuse .station))]

/-- R10: FEATURE ADD that passes R9 takes the lowest free index `k` and places the new feature in the chain: the feature or
the wall before it names it, and it names what followed. `before` and `after` are the chain's parts before and after. R1, R9:
otherwise it is refused by the first check that fails: the wall and the z span, a CLOSED wall, the x span, and R9's. R8: the
built height is the top of the held course with the highest number, or the settled top when the wall holds no course. -/
def Obligations.FeatureAddLinksTheOpening : Prop :=
  (∀ (tag : Byte) (w : Nat) (xa xb zSill zHead : Int) (r : Wall) (k : Nat) (before after : List (Nat × Feature))
      (s : State),
    s.serves (.featureAdd tag w xa xb zSill zHead) = true → w ≤ 3 → s.wall w = some r →
    0 ≤ xa → xa < xb → xb ≤ r.length → 0 ≤ zSill → zSill < zHead → zHead ≤ 8388607 → s.builtHeight w r ≤ zSill →
    (∀ e ∈ s.chain r, ¬ (xa < e.2.xb ∧ e.2.xa < xb ∧ zSill < e.2.zHead ∧ e.2.zSill < zHead)) →
    1 ≤ k → k ≤ 64 → s.feature k = none → (∀ j, 1 ≤ j → j < k → s.feature j ≠ none) →
    s.chain r = before ++ after →
    (∀ e ∈ before, e.2.xa < xa ∨ (e.2.xa = xa ∧ e.2.zSill ≤ zSill)) →
    (∀ e, after.head? = some e → xa < e.2.xa ∨ (e.2.xa = xa ∧ zSill < e.2.zSill)) →
    ∃ t, exec (.featureAdd tag w xa xb zSill zHead) s = .next t ∧
      Answered s (.featureAdd tag w xa xb zSill zHead) ⟨.p, tag, 4⟩ t (Reply.okWith (u8 k)) ∧
      t.feature k = some
        { wall := w, xa := xa, xb := xb, zSill := zSill, zHead := zHead, lintel := none
          next := (after.head?.map Prod.fst).getD 0 } ∧
      (before = [] → t.wall w = some { r with chainHead := k } ∧ ∀ j, j ≠ k → t.feature j = s.feature j) ∧
      (∀ e, before.getLast? = some e →
        t.wall w = some r ∧ ∀ j, j ≠ k →
          t.feature j = if j = e.1 then (s.feature j).map (fun f => { f with next := k }) else s.feature j) ∧
      (∀ v, v ≠ w → t.wall v = s.wall v) ∧
      t = { s.withPortUnitOf t with walls := t.walls, features := t.features }) ∧
  (∀ (tag : Byte) (w : Nat) (xa xb zSill zHead : Int) (s : State) (i : Instr) (h : Header),
    i = .featureAdd tag w xa xb zSill zHead → h = ⟨.p, tag, 4⟩ → s.serves i = true →
    FirstOf
      [(¬ (w ≤ 3 ∧ 0 ≤ zSill ∧ zSill < zHead ∧ zHead ≤ 8388607), AnswersUnchanged s i h (Reply.refuse .outOfRange)),
        (s.wall w = none, RefusesNoRecord s i h (1 * 65536 + w : Nat))]) ∧
  (∀ (tag : Byte) (w : Nat) (xa xb zSill zHead : Int) (r : Wall) (s : State) (i : Instr) (h : Header),
    i = .featureAdd tag w xa xb zSill zHead → h = ⟨.p, tag, 4⟩ → s.serves i = true → w ≤ 3 → s.wall w = some r →
    FirstOf
      [(¬ (0 ≤ zSill ∧ zSill < zHead ∧ zHead ≤ 8388607), AnswersUnchanged s i h (Reply.refuse .outOfRange)),
        (¬ (0 ≤ xa ∧ xa < xb ∧ xb ≤ r.length), AnswersUnchanged s i h (Reply.refuse .outOfRange)),
        (zSill < s.builtHeight w r, AnswersUnchanged s i h (Reply.refuse .built)),
        (∃ e ∈ s.chain r, xa < e.2.xb ∧ e.2.xa < xb ∧ zSill < e.2.zHead ∧ e.2.zSill < zHead,
          ∀ before e after, s.chain r = before ++ e :: after →
            (∀ b ∈ before, ¬ (xa < b.2.xb ∧ b.2.xa < xb ∧ zSill < b.2.zHead ∧ b.2.zSill < zHead)) →
            xa < e.2.xb ∧ e.2.xa < xb ∧ zSill < e.2.zHead ∧ e.2.zSill < zHead →
            AnswersUnchanged s i h (Reply.refusedWith .overlap (u8 e.1))),
        (∀ k, 1 ≤ k → k ≤ 64 → s.feature k ≠ none, AnswersUnchanged s i h (Reply.refuse .noSpace))]) ∧
  (∀ (s : State) (w : Nat) (r : Wall), (∀ e ∈ s.courses, e.2.wall ≠ w) → s.builtHeight w r = r.settledTop) ∧
  ∀ (s : State) (w : Nat) (r : Wall), ∀ e ∈ s.courses, e.2.wall = w →
    (∀ d ∈ s.courses, d.2.wall = w → d = e ∨ d.2.number < e.2.number) →
    s.builtHeight w r = e.2.baseZ + (s.kind e.2.kind).height

/-- R11, R12: FEATURE DROP unlinks a feature that is above the built height and bears no lintel, and frees it, and is refused
by the first of the two checks that fails; LINTEL SET makes an absent lintel present, and refuses a second one with
LINTEL_SET. R1: before that each is refused with OUT_OF_RANGE for a field out of range and with NO_RECORD for a free feature,
the top z of LINTEL SET last, since its range is the feature's (log 17). R2, R7: the chain of a wall starts at its chain head
and follows the next fields; the feature before another is the one next to it in the chain, none for the chain head. -/
def Obligations.FeatureDropAndLintelSet : Prop :=
    (∀ (s : State) (r : Wall),
      (s.chain r).head? = (s.feature r.chainHead).map (fun f => (r.chainHead, f)) ∧
      (∀ before after a b, s.chain r = before ++ a :: b :: after → a.2.next = b.1 ∧ s.feature b.1 = some b.2) ∧
      (∀ a, (s.chain r).getLast? = some a → s.feature a.2.next = none ∨ (s.chain r).length = 64) ∧
      ∀ before k f after, s.chain r = before ++ (k, f) :: after → (∀ e ∈ before, e.1 ≠ k) →
        (before = [] → s.before r k = none) ∧ ∀ e, before.getLast? = some e → s.before r k = some e.1) ∧
    (∀ (tag : Byte) (k : Nat) (s : State) (i : Instr) (h : Header), i = .featureDrop tag k → h = ⟨.p, tag, 5⟩ →
      s.serves i = true →
      FirstOf
        [(k < 1 ∨ 64 < k, AnswersUnchanged s i h (Reply.refuse .outOfRange)),
          (s.feature k = none, RefusesNoRecord s i h (2 * 65536 + k : Nat))]) ∧
    (∀ (tag : Byte) (k : Nat) (topZ bearing : Int) (s : State) (i : Instr) (h : Header),
      i = .lintelSet tag k topZ bearing → h = ⟨.p, tag, 6⟩ → s.serves i = true →
      FirstOf
        [(k < 1 ∨ 64 < k ∨ bearing < 0 ∨ 3000 < bearing, AnswersUnchanged s i h (Reply.refuse .outOfRange)),
          (s.feature k = none, RefusesNoRecord s i h (2 * 65536 + k : Nat)),
          (∃ f, s.feature k = some f ∧ (topZ < f.zHead ∨ 8388607 < topZ),
            AnswersUnchanged s i h (Reply.refuse .outOfRange))]) ∧
  (∀ (tag : Byte) (k : Nat) (f : Feature) (r : Wall) (s : State), s.serves (.featureDrop tag k) = true →
      1 ≤ k → k ≤ 64 → s.feature k = some f → s.wall f.wall = some r → s.builtHeight f.wall r ≤ f.zSill →
      f.lintel = none →
      ∃ t, exec (.featureDrop tag k) s = .next t ∧ Answered s (.featureDrop tag k) ⟨.p, tag, 5⟩ t Reply.okay ∧
        t.feature k = none ∧
        (s.before r k = none →
          t.wall f.wall = some { r with chainHead := f.next } ∧ ∀ j, j ≠ k → t.feature j = s.feature j) ∧
        (∀ b, s.before r k = some b →
          t.wall f.wall = some r ∧ ∀ j, j ≠ k →
            t.feature j = if j = b then (s.feature j).map (fun g => { g with next := f.next }) else s.feature j) ∧
        (∀ v, v ≠ f.wall → t.wall v = s.wall v) ∧
        t = { s.withPortUnitOf t with walls := t.walls, features := t.features }) ∧
    (∀ (tag : Byte) (k : Nat) (f : Feature) (r : Wall) (s : State) (i : Instr) (h : Header), i = .featureDrop tag k →
      h = ⟨.p, tag, 5⟩ → s.serves i = true → 1 ≤ k → k ≤ 64 → s.feature k = some f → s.wall f.wall = some r →
      FirstOf
        [(f.zSill < s.builtHeight f.wall r, AnswersUnchanged s i h (Reply.refuse .built)),
          (f.lintel ≠ none, AnswersUnchanged s i h (Reply.refuse .lintel))]) ∧
    ∀ (tag : Byte) (k : Nat) (topZ bearing : Int) (f : Feature) (s : State),
      s.serves (.lintelSet tag k topZ bearing) = true → 1 ≤ k → k ≤ 64 → s.feature k = some f → 0 ≤ bearing →
      bearing ≤ 3000 → f.zHead ≤ topZ → topZ ≤ 8388607 →
      (f.lintel = none →
        ∃ t, exec (.lintelSet tag k topZ bearing) s = .next t ∧
          Answered s (.lintelSet tag k topZ bearing) ⟨.p, tag, 6⟩ t Reply.okay ∧
          t.feature k = some { f with lintel := some { topZ := topZ, bearing := bearing } } ∧
          (∀ j, j ≠ k → t.feature j = s.feature j) ∧ t = { s.withPortUnitOf t with features := t.features }) ∧
      (f.lintel ≠ none →
        ∃ t, exec (.lintelSet tag k topZ bearing) s = .next t ∧
          Answered s (.lintelSet tag k topZ bearing) ⟨.p, tag, 6⟩ t (Reply.refuse .lintelSet) ∧ t = s.withPortUnitOf t)

/-- R13, R14, R15: CONFIG KIND and CONFIG PROFILE write every field of an entry that is not in use, when the fields are in
range and fit the saw step; an absent Lt is written as 30 and an absent T_open as 90 000. Otherwise each is refused by the
first check that fails: the range, an entry in use, the saw step. -/
def Obligations.ConfigKindAndProfileWriteTheEntry : Prop :=
  (∀ (tag : Byte) (k : Nat) (length height bedDepth cmin : Int) (lt : Option Int) (s : State),
      s.serves (.configKind tag k length height bedDepth cmin lt) = true → k ≤ 7 → 1000 ≤ length → length ≤ 4000 →
      400 ≤ height → height ≤ 1200 → 600 ≤ bedDepth → bedDepth ≤ 2500 → 300 ≤ cmin → cmin < length →
      0 ≤ lt.getD 30 → lt.getD 30 ≤ 50 → (∀ e ∈ s.courses, e.2.kind ≠ k) → cmin % s.params.sawStep = 0 →
      ∃ t, exec (.configKind tag k length height bedDepth cmin lt) s = .next t ∧
        Answered s (.configKind tag k length height bedDepth cmin lt) ⟨.p, tag, 7⟩ t Reply.okay ∧
        Table.find t.kinds k = some
          { length := length, height := height, bedDepth := bedDepth, cmin := cmin, lt := lt.getD 30 } ∧
        (∀ j, j ≠ k → Table.find t.kinds j = Table.find s.kinds j) ∧
        t = { s.withPortUnitOf t with kinds := t.kinds }) ∧
    (∀ (tag : Byte) (k : Nat) (length height bedDepth cmin : Int) (lt : Option Int) (s : State) (i : Instr) (h : Header),
      i = .configKind tag k length height bedDepth cmin lt → h = ⟨.p, tag, 7⟩ → s.serves i = true →
      FirstOf
        [(¬ (k ≤ 7 ∧ 1000 ≤ length ∧ length ≤ 4000 ∧ 400 ≤ height ∧ height ≤ 1200 ∧ 600 ≤ bedDepth ∧ bedDepth ≤ 2500 ∧
            300 ≤ cmin ∧ cmin < length ∧ 0 ≤ lt.getD 30 ∧ lt.getD 30 ≤ 50),
            AnswersUnchanged s i h (Reply.refuse .outOfRange)),
          (∃ e ∈ s.courses, e.2.kind = k, AnswersUnchanged s i h (Reply.refuse .inUse)),
          (cmin % s.params.sawStep ≠ 0, AnswersUnchanged s i h (Reply.refuse .sawStep))]) ∧
    (∀ (tag : Byte) (k : Nat) (jn jmin jmax bn : Int) (tOpen : Option Nat) (s : State) (i : Instr) (h : Header),
      i = .configProfile tag k jn jmin jmax bn tOpen → h = ⟨.p, tag, 8⟩ → s.serves i = true →
      FirstOf
        [(¬ (k ≤ 3 ∧ 20 ≤ jmin ∧ jmin ≤ jn ∧ jn ≤ jmax ∧ jmax ≤ 250 ∧ 20 ≤ bn ∧ bn ≤ 250 ∧ 10000 ≤ tOpen.getD 90000 ∧
            tOpen.getD 90000 ≤ 600000), AnswersUnchanged s i h (Reply.refuse .outOfRange)),
          (∃ e ∈ s.courses, e.2.profile = k, AnswersUnchanged s i h (Reply.refuse .inUse)),
          (jmax < jn + s.params.sawStep, AnswersUnchanged s i h (Reply.refuse .sawStep))]) ∧
    ∀ (tag : Byte) (k : Nat) (jn jmin jmax bn : Int) (tOpen : Option Nat) (s : State),
      s.serves (.configProfile tag k jn jmin jmax bn tOpen) = true → k ≤ 3 → 20 ≤ jmin → jmin ≤ jn → jn ≤ jmax →
      jmax ≤ 250 → 20 ≤ bn → bn ≤ 250 → 10000 ≤ tOpen.getD 90000 → tOpen.getD 90000 ≤ 600000 →
      (∀ e ∈ s.courses, e.2.profile ≠ k) → jn + s.params.sawStep ≤ jmax →
      ∃ t, exec (.configProfile tag k jn jmin jmax bn tOpen) s = .next t ∧
        Answered s (.configProfile tag k jn jmin jmax bn tOpen) ⟨.p, tag, 8⟩ t Reply.okay ∧
        Table.find t.profiles k = some
          { jn := jn, jmin := jmin, jmax := jmax, bn := bn, tOpen := tOpen.getD 90000 } ∧
        (∀ j, j ≠ k → Table.find t.profiles j = Table.find s.profiles j) ∧
        t = { s.withPortUnitOf t with profiles := t.profiles }

/-- R16, R17, R18, R118, R141, R153, R174, R178: CONFIG PARAM with a value in the parameter's range writes that parameter and
no other, and answers OK with the value now held. A value out of range, and a number that names no parameter (carried as log
16 says), is refused with OUT_OF_RANGE. The saw step is refused while a course is held, and under a defined kind or profile
that is not valid under it, with the lowest such number. -/
def Obligations.ConfigParamWritesTheParameter : Prop :=
  (∀ (tag : Byte) (v : Int) (s t' : State) (i : Instr), s.serves i = true →
    ((i = .configParamSawStep tag v ∧ 1 ≤ v ∧ v ≤ 20 ∧ s.courses = [] ∧ (∀ e ∈ s.kinds, e.2.cmin % v = 0) ∧
        (∀ e ∈ s.profiles, e.2.jn + v ≤ e.2.jmax) ∧ t' = { s with params := { s.params with sawStep := v } }) ∨
      (i = .configParamMinimumLap tag v ∧ 0 ≤ v ∧ v ≤ 2000 ∧
        t' = { s with params := { s.params with minimumLap := v } }) ∨
      (i = .configParamTolerance tag 3 v ∧ 0 ≤ v ∧ v ≤ 200 ∧ t' = { s with params := { s.params with tolX := v } }) ∨
      (i = .configParamTolerance tag 4 v ∧ 0 ≤ v ∧ v ≤ 200 ∧ t' = { s with params := { s.params with tolY := v } }) ∨
      (i = .configParamTolerance tag 5 v ∧ 0 ≤ v ∧ v ≤ 200 ∧ t' = { s with params := { s.params with tolZ := v } }) ∨
      (i = .configParamTolerance tag 6 v ∧ 0 ≤ v ∧ v ≤ 200 ∧ t' = { s with params := { s.params with tolEnd := v } }) ∨
      (i = .configParamTolerance tag 7 v ∧ 0 ≤ v ∧ v ≤ 200 ∧
        t' = { s with params := { s.params with tolJoint := v } }) ∨
      (i = .configParamSetTime tag v ∧ 0 ≤ v ∧ v ≤ 300000 ∧
        t' = { s with params := { s.params with setTime := v.toNat } }) ∨
      (i = .configParamDatumSkew tag v ∧ 0 ≤ v ∧ v ≤ 500 ∧
        t' = { s with params := { s.params with maxSkew := v } }) ∨
      (i = .configParamStrictReferences tag v ∧ 0 ≤ v ∧ v ≤ 1 ∧
        t' = { s with params := { s.params with strictReferences := v = 1 } }) ∨
      ∃ parameter line, i = .configParamEdgeSense tag parameter v ∧ 0 ≤ v ∧ v ≤ 1 ∧
        ((parameter = 11 ∧ line = .armReady) ∨ (parameter = 12 ∧ line = .truckParked) ∨
          (parameter = 13 ∧ line = .groundShift) ∨ (parameter = 14 ∧ line = .windHold)) ∧
        t' = { s with senses := s.senses.put line (if v = 1 then .falling else .rising) }) →
    ∃ t, exec i s = .next t ∧ Answered s i ⟨.p, tag, 9⟩ t (Reply.okWith (s32 v)) ∧ t = t'.withPortUnitOf t) ∧
  (∀ (tag : Byte) (v lo hi : Int) (s : State) (i : Instr), s.serves i = true → v < lo ∨ hi < v →
    ((i = .configParamSawStep tag v ∧ lo = 1 ∧ hi = 20) ∨ (i = .configParamMinimumLap tag v ∧ lo = 0 ∧ hi = 2000) ∨
      (∃ n, 3 ≤ n ∧ n ≤ 7 ∧ i = .configParamTolerance tag n v ∧ lo = 0 ∧ hi = 200) ∨
      (i = .configParamSetTime tag v ∧ lo = 0 ∧ hi = 300000) ∨ (i = .configParamDatumSkew tag v ∧ lo = 0 ∧ hi = 500) ∨
      (i = .configParamStrictReferences tag v ∧ lo = 0 ∧ hi = 1) ∨
      ∃ n, 11 ≤ n ∧ n ≤ 14 ∧ i = .configParamEdgeSense tag n v ∧ lo = 0 ∧ hi = 1) →
    AnswersUnchanged s i ⟨.p, tag, 9⟩ (Reply.refuse .outOfRange)) ∧
  (∀ (tag : Byte) (n : Nat) (v : Int) (s : State), s.serves (.configParamEdgeSense tag n v) = true → n < 11 ∨ 14 < n →
    AnswersUnchanged s (.configParamEdgeSense tag n v) ⟨.p, tag, 9⟩ (Reply.refuse .outOfRange)) ∧
  ∀ (tag : Byte) (q : Int) (s : State) (i : Instr) (h : Header), i = .configParamSawStep tag q → h = ⟨.p, tag, 9⟩ →
    s.serves i = true → s.tablesCanonical → 1 ≤ q → q ≤ 20 →
    FirstOf
      [(s.courses ≠ [], AnswersUnchanged s i h (Reply.refuse .inUse)),
        (∃ e ∈ s.kinds, e.2.cmin % q ≠ 0, ∀ e ∈ s.kinds, e.2.cmin % q ≠ 0 →
          (∀ d ∈ s.kinds, d.2.cmin % q ≠ 0 → e.1 ≤ d.1) →
          AnswersUnchanged s i h (Reply.refusedWith .sawStep (u8 e.1))),
        (∃ e ∈ s.profiles, e.2.jmax < e.2.jn + q, ∀ e ∈ s.profiles, e.2.jmax < e.2.jn + q →
          (∀ d ∈ s.profiles, d.2.jmax < d.2.jn + q → e.1 ≤ d.1) →
          AnswersUnchanged s i h (Reply.refusedWith .sawStep (u8 e.1)))]

/-! ### Loading a course -/

/-- R22, R25: COURSE BEGIN that passes R24 takes the lowest EMPTY entry, makes it LOADING with the wall's next course number
and the base z of R22, and opens the load with a deadline 5 000 ms away. Otherwise it is refused by the first check of R24
that fails. -/
def Obligations.CourseBeginOpensTheLoad : Prop :=
  (∀ (tag : Byte) (w kind profile runCount entry : Nat) (r : Wall) (s : State),
    s.serves (.courseBegin tag w kind profile runCount) = true → w ≤ 3 → kind ≤ 7 → profile ≤ 3 → 1 ≤ runCount →
    runCount ≤ 8 → s.wall w = some r → s.load = none → Table.find s.kinds kind ≠ none →
    Table.find s.profiles profile ≠ none → r.nextCourse ≠ 255 → entry < 48 → s.course entry = none →
    (∀ e < entry, s.course e ≠ none) →
    ∃ t base, exec (.courseBegin tag w kind profile runCount) s = .next t ∧
      Answered s (.courseBegin tag w kind profile runCount) ⟨.p, tag, 11⟩ t
        (Reply.okWith (u8 r.nextCourse ++ u8 entry ++ s24Field base)) ∧
      (r.nextCourse = 0 → base = (s.profile profile).bn) ∧
      (r.nextCourse ≠ 0 → ∀ e c, s.liveCourse w (r.nextCourse - 1) = some (e, c) →
        base = c.baseZ + (s.kind c.kind).height + (s.profile profile).bn) ∧
      (r.nextCourse ≠ 0 → s.liveCourse w (r.nextCourse - 1) = none → base = r.settledTop + (s.profile profile).bn) ∧
      t.course entry = some
        { state := .loading, wall := w, number := r.nextCourse, kind := kind, profile := profile, baseZ := base
          runCount := runCount, runIds := none } ∧
      (∀ e, e ≠ entry → t.course e = s.course e) ∧
      t.load = some { entry := entry, expected := runCount, received := [], deadline := s.siteTime + 5000 } ∧
      t = { s.withPortUnitOf t with courses := t.courses, load := t.load }) ∧
  ∀ (tag : Byte) (w kind profile runCount : Nat) (s : State) (i : Instr) (h : Header),
    i = .courseBegin tag w kind profile runCount → h = ⟨.p, tag, 11⟩ → s.serves i = true →
    FirstOf
      [(¬ (w ≤ 3 ∧ kind ≤ 7 ∧ profile ≤ 3 ∧ 1 ≤ runCount ∧ runCount ≤ 8),
          AnswersUnchanged s i h (Reply.refuse .outOfRange)),
        (s.wall w = none, RefusesNoRecord s i h (1 * 65536 + w : Nat)),
        (s.load ≠ none, AnswersUnchanged s i h (Reply.refuse .busy)),
        (Table.find s.kinds kind = none, AnswersUnchanged s i h (Reply.refusedWith .undefined (u8 kind))),
        (Table.find s.profiles profile = none, AnswersUnchanged s i h (Reply.refusedWith .undefined (u8 profile))),
        (∃ r, s.wall w = some r ∧ r.nextCourse = 255, AnswersUnchanged s i h (Reply.refuse .courseLimit)),
        (∀ e < 48, s.course e ≠ none, AnswersUnchanged s i h (Reply.refuse .noSpace))]

/-- R26: RUN ENTRY while more than one run is expected appends the pair, counts it and restarts the deadline; without a load it
is refused with NO_LOAD. -/
def Obligations.RunEntryJoinsTheLoad : Prop :=
  ∀ (tag : Byte) (start stop : Int) (s : State), s.serves (.runEntry tag start stop) = true →
    (∀ l, s.load = some l → 1 < l.expected →
      ∃ t, exec (.runEntry tag start stop) s = .next t ∧
        Answered s (.runEntry tag start stop) ⟨.p, tag, 12⟩ t
          (Reply.okWith (u8 l.received.length ++ u8 (l.expected - 1))) ∧
        t.load = some
          { entry := l.entry, expected := l.expected - 1, received := l.received ++ [(start, stop)]
            deadline := s.siteTime + 5000 } ∧
        t = { s.withPortUnitOf t with load := t.load }) ∧
    (s.load = none →
      ∃ t, exec (.runEntry tag start stop) s = .next t ∧
        Answered s (.runEntry tag start stop) ⟨.p, tag, 12⟩ t (Reply.refuse .noLoad) ∧ t = s.withPortUnitOf t)

/-- R26, R39, R40, R41: the last RUN ENTRY of a load whose seven checks pass makes the course ACTIVE with its run ids, closes
the load and advances the wall's next course number. Run ids and slot ids are taken lowest first, in run order and in lay
order (`taken` lists each run's slot ids); every new run and slot is written as planned, every slot and run held before keeps
its record, and as many slots are taken as the solve planned. -/
def Obligations.LastRunEntryCommitsTheCourse : Prop :=
  ∀ (tag : Byte) (start stop : Int) (l : Load) (c : Course) (r : Wall) (plans : List RunPlan) (s : State),
    s.serves (.runEntry tag start stop) = true → s.tablesCanonical → s.load = some l → l.expected = 1 →
    s.course l.entry = some c → s.wall c.wall = some r →
    commitChecks s r c (l.received ++ [(start, stop)]) = .ok plans →
    ∃ (t : State) (ids : List Nat) (taken : List (List Nat)), exec (.runEntry tag start stop) s = .next t ∧
      Answered s (.runEntry tag start stop) ⟨.p, tag, 12⟩ t
        (Reply.okWith (u8 c.number ++ u8 l.entry ++ u8 plans.length ++ u16 (plans.map fun plan => plan.slots.length).sum)) ∧
      t.load = none ∧ t.course l.entry = some { c with state := .active, runIds := some ids } ∧
      ids.length = plans.length ∧ (∀ id ∈ ids, s.run id = none ∧ t.run id ≠ none) ∧
      takenLowestFirst ids (fun id => s.run id = none) ∧ taken.length = plans.length ∧
      takenLowestFirst taken.flatten (fun id => s.slot id = none) ∧
      (∀ (i : Nat) (plan : RunPlan) (id : Nat) (mine : List Nat), plans[i]? = some plan → ids[i]? = some id →
        taken[i]? = some mine →
        plan.order = i ∧ (l.received ++ [(start, stop)])[i]? = some (plan.start, plan.stop) ∧
        mine.length = plan.slots.length ∧
        t.run id = some
          { course := l.entry, order := i, start := plan.start, stop := plan.stop, n := plan.slots.length
            firstSlot := mine.headD 0, slotIds := mine, closerLength := plan.closerLength, closerCommitted := false
            openJoint := none } ∧
        ∀ (j : Nat) (p : SlotPlan) (slot : Nat), plan.slots[j]? = some p → mine[j]? = some slot →
          t.slot slot = some
            { course := l.entry, run := id, index := j, kind := c.kind, closer := p.closer, plannedLeft := p.left
              plannedJoint := p.joint, supports := p.supports, lintelSupported := p.lintelSupported, state := .planned
              cutLength := none, generation := none, gauged := none, targetLeft := none, targetJoint := none
              placedTime := none, measurement := none, rejectReasons := [], reapply := false, predicted := false
              clamped := false, cold := false, accepted := false }) ∧
      (∀ e, e ≠ l.entry → t.course e = s.course e) ∧
      t.wall c.wall = some { r with nextCourse := r.nextCourse + 1 } ∧ (∀ v, v ≠ c.wall → t.wall v = s.wall v) ∧
      (∀ id run, s.run id = some run → t.run id = some run) ∧
      (∀ id sl, s.slot id = some sl → t.slot id = some sl) ∧
      (∀ id sl, s.slot id = none → t.slot id = some sl → sl.state = .planned ∧ sl.course = l.entry) ∧
      t.slots.length = s.slots.length + (plans.map fun plan => plan.slots.length).sum ∧
      t = { s.withPortUnitOf t with
        walls := t.walls, courses := t.courses, runs := t.runs, slots := t.slots, load := none }

/-- R26, R30 to R33, R42, R44, R45: the last RUN ENTRY of a load that fails a check is answered with the refusal of that
check; the entry returns to EMPTY and the load is closed, and nothing else changes. The seven checks are made in order: run
entries, order of the runs, openings, run solve, slot entries, and, over a live course below, supports and lap; the first
place that fails answers. The bytes of REFUSED NO_SPACE, needed and free in two bytes each and the entry type, are the model's
readings (logs 14 and 15). -/
def Obligations.RefusedCommitLeavesNoTrace : Prop :=
  (∀ (tag : Byte) (start stop : Int) (l : Load) (c : Course) (r : Wall) (refusal : Reply) (s : State),
    s.serves (.runEntry tag start stop) = true → s.load = some l → l.expected = 1 → s.course l.entry = some c →
    s.wall c.wall = some r → commitChecks s r c (l.received ++ [(start, stop)]) = .error refusal →
    refusal.answer = .refused ∧
    ∃ t, exec (.runEntry tag start stop) s = .next t ∧
      Answered s (.runEntry tag start stop) ⟨.p, tag, 12⟩ t refusal ∧
      t.course l.entry = none ∧ (∀ e, e ≠ l.entry → t.course e = s.course e) ∧
      t = { s.withPortUnitOf t with courses := t.courses, load := none }) ∧
  ∀ (s : State) (r : Wall) (c : Course) (runs : List (Int × Int)) (k : Kind) (p : Profile),
    k = s.kind c.kind → p = s.profile c.profile →
    FirstOf
      [(128 - s.runs.length < runs.length,
          commitChecks s r c runs =
            .error (Reply.refusedWith .noSpace (u16 runs.length ++ u16 (128 - s.runs.length) ++ u8 1))),
        (∃ i a, misplacedRun r runs i a,
          ∀ a, FirstAt (misplacedRun r runs) a → commitChecks s r c runs = .error a),
        (∃ i a, crossingRun (s.chain r) c.baseZ (c.baseZ + k.height) runs i a,
          ∀ a, FirstAt (crossingRun (s.chain r) c.baseZ (c.baseZ + k.height) runs) a →
            commitChecks s r c runs = .error a),
        (∃ i a, unsolvedRun k p s.params.sawStep s.sawFitted runs i a,
          ∀ a, FirstAt (unsolvedRun k p s.params.sawStep s.sawFitted runs) a → commitChecks s r c runs = .error a),
        (True, ∀ plans : List RunPlan, plans.length = runs.length →
          (∀ (i : Nat) (run : Int × Int) (plan : RunPlan), runs[i]? = some run → plans[i]? = some plan →
            solveRun k p s.params.sawStep s.sawFitted i run.1 run.2 = .ok plan) →
          FirstOf
            [(512 - s.slots.length < (plans.map fun plan => plan.slots.length).sum,
                commitChecks s r c runs = .error (Reply.refusedWith .noSpace
                  (u16 (plans.map fun plan => plan.slots.length).sum ++ u16 (512 - s.slots.length) ++ u8 2))),
              (c.number = 0 ∨ s.liveCourse c.wall (c.number - 1) = none, commitChecks s r c runs = .ok plans),
              (True, ∀ e below, s.liveCourse c.wall (c.number - 1) = some (e, below) →
                FirstOf
                  [(∃ i a, unsupportedRun (s.bedOn r below) plans i a,
                      ∀ a, FirstAt (unsupportedRun (s.bedOn r below) plans) a → commitChecks s r c runs = .error a),
                    (∃ i a, shortLapRun s below plans i a,
                      ∀ a, FirstAt (shortLapRun s below plans) a → commitChecks s r c runs = .error a),
                    (True, ∃ supported, commitChecks s r c runs = .ok supported ∧ supported.length = plans.length ∧
                      ∀ (i : Nat) (plan borne : RunPlan), plans[i]? = some plan → supported[i]? = some borne →
                        borne = { plan with slots := borne.slots } ∧ borne.slots.length = plan.slots.length ∧
                        ∀ (j : Nat) (slot : SlotPlan), plan.slots[j]? = some slot →
                          ∃ held, borne.slots[j]? = some held ∧
                            supportSlot (s.bedOn r below) plan.order slot = .ok held)])])]

/-- R34 to R38: a run that the solve takes starts at its start, each further brick stands one joint from the one before, every
joint is within the profile, and with two bricks or more the last brick ends exactly at the run's end. Only the last brick can
be a closer; its length is a multiple of q from Cmin to the cut ceiling, and a closer alone stops short of the end by less
than q. The case of R34 or R35 whose condition holds first gives the number of slots and the closer's planned length, or the
refusal; the limits of R36 and the joints of R37 follow (`SolvedAs`). -/
def Obligations.SolvedRunCloses : Prop :=
  (∀ (k : Kind) (p : Profile) (q : Int) (saw : Bool) (order : Nat) (start stop : Int) (plan : RunPlan),
    0 < q → 0 < k.length → 0 < k.cmin → k.cmin ≤ k.length → k.cmin % q = 0 → 0 ≤ p.jn → start < stop →
    solveRun k p q saw order start stop = .ok plan →
    1 ≤ plan.slots.length ∧ plan.slots.length ≤ 96 ∧
    (∀ b, plan.slots.head? = some b → b.left = start ∧ b.joint = none) ∧
    (∀ i a b, plan.slots[i]? = some a → plan.slots[i + 1]? = some b →
      a.closer = false ∧ ∃ j, b.joint = some j ∧ p.jmin ≤ j ∧ j ≤ p.jmax ∧ b.left = a.left + a.length + j) ∧
    (∀ b, plan.slots.getLast? = some b → 2 ≤ plan.slots.length → b.left + b.length = stop) ∧
    (∀ b ∈ plan.slots, b.closer = false → b.length = k.length) ∧
    (∀ b ∈ plan.slots, b.closer = true →
      saw = true ∧ plan.closerLength = some b.length ∧ b.length % q = 0 ∧ k.cmin ≤ b.length ∧
        b.length ≤ q * (k.length / q) ∧
        (plan.slots.length = 1 → 0 ≤ stop - (b.left + b.length) ∧ stop - (b.left + b.length) < q))) ∧
  ∀ (k : Kind) (p : Profile) (q : Int) (saw : Bool) (order : Nat) (start stop d f r : Int),
    0 < k.length → 0 ≤ p.jn → start < stop → d = stop - start → f = (d + p.jn) / (k.length + p.jn) →
    r = d - f * k.length - (f - 1) * p.jn →
    FirstOf
      [(f = 0 ∧ k.cmin ≤ d, SolvedAs k p q saw order start stop 1 (some (q * (d / q)))),
        (f = 0, solveRun k p q saw order start stop = .error (Reply.refusedWith .runTooShort (u8 order))),
        (r = 0, SolvedAs k p q saw order start stop f none),
        (p.jn + k.cmin ≤ r, SolvedAs k p q saw order start stop (f + 1) (some (q * ((r - p.jn) / q)))),
        (0 < r ∧ r < p.jn + k.cmin ∧ 2 ≤ f ∧ r ≤ (f - 1) * (p.jmax - p.jn),
          SolvedAs k p q saw order start stop f none),
        (p.jn + k.cmin - r ≤ f * (p.jn - p.jmin), SolvedAs k p q saw order start stop (f + 1) (some k.cmin)),
        (True, solveRun k p q saw order start stop = .error (Reply.refusedWith .runUnsolvable (u8 order)))]

/-- R42, R43: a slot that the support check takes has, as supports, the slots below that share at least one tenth with it, at
most four, and each of its tenths is covered by the course below or borne by a lintel; the lintel-supported flag is set when
some tenth is not covered. A slot that it refuses shares a tenth with more than four, or has a tenth that nothing bears. The
bed is that of the course below: its slots with their planned spans in lay order; covered from each run's start to the planned
right face of its last slot; borne from x_a less the bearing to x_b plus the bearing by each lintel of the wall whose top lies
within tol_z of the course's (that the tenth at x_b plus the bearing is borne is the model's reading, log 18). -/
def Obligations.SupportCheckJudgesEveryTenth : Prop :=
  (∀ (bed : Bed) (order : Nat) (p : SlotPlan), 0 < p.length →
    (∀ q, supportSlot bed order p = .ok q →
      q.supports = ((bed.slots.filter fun e => max p.left e.2.1 < min (p.left + p.length) e.2.2).map Prod.fst) ∧
      q.supports.length ≤ 4 ∧
      (∀ x, p.left ≤ x → x < p.left + p.length →
        (∃ c ∈ bed.covered, c.1 ≤ x ∧ x < c.2) ∨ ∃ c ∈ bed.lintels, c.1 ≤ x ∧ x < c.2) ∧
      (q.lintelSupported = true ↔
        ∃ x, p.left ≤ x ∧ x < p.left + p.length ∧ ∀ c ∈ bed.covered, ¬ (c.1 ≤ x ∧ x < c.2)) ∧
      q = { p with supports := q.supports, lintelSupported := q.lintelSupported }) ∧
    (∀ e, supportSlot bed order p = .error e →
      (e = Reply.refusedWith .supportOverflow (u8 order ++ u8 p.index) ∧
        4 < (bed.slots.filter fun e => max p.left e.2.1 < min (p.left + p.length) e.2.2).length) ∨
      (e = Reply.refusedWith .unsupported (u8 order ++ u8 p.index) ∧
        ∃ x, p.left ≤ x ∧ x < p.left + p.length ∧ (∀ c ∈ bed.covered, ¬ (c.1 ≤ x ∧ x < c.2)) ∧
          ∀ c ∈ bed.lintels, ¬ (c.1 ≤ x ∧ x < c.2)))) ∧
  ∀ (s : State) (r : Wall) (below : Course),
    (s.bedOn r below).slots = (s.courseSlots below).map (fun e =>
      (e.1, (e.2.plannedLeft, e.2.plannedLeft +
        if e.2.closer then (s.runOf e.2).closerLength.getD 0 else (s.kind e.2.kind).length))) ∧
    (∀ x, (∃ c ∈ (s.bedOn r below).covered, c.1 ≤ x ∧ x < c.2) ↔
      ∃ id ∈ below.runIds.getD [], ∃ run e, s.run id = some run ∧ (s.slotsAt run.slotIds).getLast? = some e ∧
        run.start ≤ x ∧ x < s.plannedRight e.2) ∧
    ∀ x, (∃ c ∈ (s.bedOn r below).lintels, c.1 ≤ x ∧ x < c.2) ↔
      ∃ e ∈ s.chain r, ∃ l, e.2.lintel = some l ∧
        magnitude (l.topZ - (below.baseZ + (s.kind below.kind).height)) ≤ s.params.tolZ ∧
        e.2.xa - l.bearing ≤ x ∧ x ≤ e.2.xb + l.bearing

/-- R27: COURSE ABANDON closes the open load without a commit: the entry returns to EMPTY, the load record becomes absent, and
the answer is OK with the course number; without a load it is refused with NO_LOAD. -/
def Obligations.CourseAbandonClosesTheLoad : Prop :=
  ∀ (tag : Byte) (s : State), s.serves (.courseAbandon tag) = true →
    (∀ l c, s.load = some l → s.course l.entry = some c →
      ∃ t, exec (.courseAbandon tag) s = .next t ∧
        Answered s (.courseAbandon tag) ⟨.p, tag, 13⟩ t (Reply.okWith (u8 c.number)) ∧
        t.load = none ∧ t.course l.entry = none ∧ (∀ e, e ≠ l.entry → t.course e = s.course e) ∧
        t = { s.withPortUnitOf t with courses := t.courses, load := none }) ∧
    (s.load = none →
      ∃ t, exec (.courseAbandon tag) s = .next t ∧
        Answered s (.courseAbandon tag) ⟨.p, tag, 13⟩ t (Reply.refuse .noLoad) ∧ t = s.withPortUnitOf t)

/-- R28: the inactivity timeout. 5 000 ms after the deadline was last started the load is abandoned and LOAD_TIMEOUT is
reported at severity 2, naming the course, the planner port and the runs received; before that, and without a load, nothing
happens (log 4). -/
def Obligations.LoadTimeoutAbandonsTheLoad : Prop :=
  ∀ s : State, s.hold = .running →
    (∀ l, s.load = some l → 5000 ≤ elapsed s.siteTime (l.deadline - 5000) →
      ∃ t, exec .loadInactivityTimeout s = .next t ∧ t.load = none ∧ t.course l.entry = none ∧
        (∀ e, e ≠ l.entry → t.course e = s.course e) ∧ t.flags = { s.flags with loadTimeout := true } ∧
        t.reasons = s.reasons ||| Reason.loadTimeout.bit ∧
        t.processCapture = offered s.processCapture
          { cls := .loadTimeout, severity := 2, time := s.siteTime, slot := none
            course := (s.course l.entry).map fun c => { entry := l.entry, wall := c.wall, number := c.number }
            port := some .p, detail := l.received.length } ∧
        t = { s with
          courses := t.courses, load := none, flags := t.flags, reasons := t.reasons
          processCapture := t.processCapture, attn := t.attn, haltReq := t.haltReq }) ∧
    (∀ l, s.load = some l → elapsed s.siteTime (l.deadline - 5000) < 5000 →
      exec .loadInactivityTimeout s = .next s) ∧
    (s.load = none → exec .loadInactivityTimeout s = .next s)

/-- R47, R48, R49: COURSE RETIRE of a wall's base course that is COMPLETE and has set frees its slots, its runs and its entry;
the wall's settled top becomes its top and the base course the next number; the slots of the live course above lose their
references to the slots retired, and nothing else. Otherwise it is refused by the first check of R47 that fails. A held course
and a live course are found by wall and number. -/
def Obligations.CourseRetireFreesTheCourse : Prop :=
  (∀ (s : State) (w n : Nat),
    (∀ e, s.heldCourse w n = some e → e ∈ s.courses ∧ e.2.wall = w ∧ e.2.number = n) ∧
    (s.heldCourse w n = none → ∀ e ∈ s.courses, ¬ (e.2.wall = w ∧ e.2.number = n)) ∧
    (∀ e, s.liveCourse w n = some e → e ∈ s.courses ∧ e.2.wall = w ∧ e.2.number = n ∧ e.2.state ≠ .loading) ∧
    (s.liveCourse w n = none → ∀ e ∈ s.courses, ¬ (e.2.wall = w ∧ e.2.number = n ∧ e.2.state ≠ .loading))) ∧
  (∀ (tag : Byte) (w n entry : Nat) (c : Course) (r : Wall) (s : State), s.serves (.courseRetire tag w n) = true →
    w ≤ 3 → n ≤ 255 → s.wall w = some r → s.heldCourse w n = some (entry, c) → c.state = .complete →
    (∀ e ∈ s.courseSlots c, s.stillSetting e.2 = 0) → r.baseCourse = n →
    ∃ t, exec (.courseRetire tag w n) s = .next t ∧
      Answered s (.courseRetire tag w n) ⟨.p, tag, 14⟩ t (Reply.okWith (u8 (n + 1) ++ s24Field (s.topOf c))) ∧
      t.course entry = none ∧ (∀ e, e ≠ entry → t.course e = s.course e) ∧
      t.wall w = some { r with settledTop := s.topOf c, baseCourse := n + 1 } ∧ (∀ v, v ≠ w → t.wall v = s.wall v) ∧
      (∀ id, t.run id = if id ∈ c.runIds.getD [] then none else s.run id) ∧
      (∀ id, id ∈ (s.courseSlots c).map Prod.fst → t.slot id = none) ∧
      (∀ id, id ∉ (s.courseSlots c).map Prod.fst →
        t.slot id = (s.slot id).map fun sl =>
          if (s.liveCourse w (n + 1)).any (fun above => above.1 = sl.course) then
            { sl with supports := sl.supports.filter fun u => u ∉ (s.courseSlots c).map Prod.fst }
          else sl) ∧
      t = { s.withPortUnitOf t with
        walls := t.walls, courses := t.courses, runs := t.runs, slots := t.slots }) ∧
  ∀ (tag : Byte) (w n : Nat) (s : State) (i : Instr) (h : Header) (setting : Nat → Prop),
    i = .courseRetire tag w n → h = ⟨.p, tag, 14⟩ → s.serves i = true →
    (∀ left, setting left ↔ ∃ e c sl placed, s.heldCourse w n = some (e, c) ∧ sl ∈ s.courseSlots c ∧
      sl.2.placedTime = some placed ∧ elapsed s.siteTime placed < s.params.setTime ∧
      left = s.params.setTime - elapsed s.siteTime placed) →
    FirstOf
      [(¬ (w ≤ 3 ∧ n ≤ 255), AnswersUnchanged s i h (Reply.refuse .outOfRange)),
        (s.wall w = none, RefusesNoRecord s i h (1 * 65536 + w : Nat)),
        (∀ e ∈ s.courses, ¬ (e.2.wall = w ∧ e.2.number = n), RefusesNoRecord s i h (3 * 65536 + (w * 256 + n) : Nat)),
        (∃ e c, s.heldCourse w n = some (e, c) ∧ c.state ≠ .complete, AnswersUnchanged s i h (Reply.refuse .notComplete)),
        (∃ left, setting left, ∀ left, setting left → (∀ other, setting other → other ≤ left) →
          AnswersUnchanged s i h (Reply.refusedWith .setting (u32 left))),
        (∃ r, s.wall w = some r ∧ r.baseCourse ≠ n, AnswersUnchanged s i h (Reply.refuse .notLowest))]

/-! ### Slots -/

/-- R46, R65: ACCEPT of a REJECTED slot makes it VERIFIED with its accepted flag set and keeps its other fields; the course
becomes COMPLETE, and COURSE_COMPLETE is raised, when it is ACTIVE and that was its last slot not VERIFIED. A slot in another
state is refused with NOT_REJECTED and its state. -/
def Obligations.AcceptTakesTheBrickAsBuilt : Prop :=
  ∀ (tag : Byte) (id : Nat) (sl : Slot) (c : Course) (s : State), s.serves (.accept tag id) = true → id < 512 →
    s.slot id = some sl → s.course sl.course = some c →
    (sl.state ≠ .rejected →
      ∃ t, exec (.accept tag id) s = .next t ∧
        Answered s (.accept tag id) ⟨.p, tag, 17⟩ t (Reply.refusedWith .notRejected (u8 sl.state.value)) ∧
        t = s.withPortUnitOf t) ∧
    (sl.state = .rejected →
      ∃ t, exec (.accept tag id) s = .next t ∧
        t.slot id = some { sl with state := .verified, accepted := true } ∧ (∀ j, j ≠ id → t.slot j = s.slot j) ∧
        ((c.state = .active ∧ ∀ e ∈ t.courseSlots c, e.2.state = .verified) →
          Answered s (.accept tag id) ⟨.p, tag, 17⟩ t (Reply.okWith (u8 CourseState.complete.value)) ∧
          t.course sl.course = some { c with state := .complete } ∧
          t.reasons = s.reasons ||| Reason.courseComplete.bit) ∧
        (¬ (c.state = .active ∧ ∀ e ∈ t.courseSlots c, e.2.state = .verified) →
          Answered s (.accept tag id) ⟨.p, tag, 17⟩ t (Reply.okWith (u8 c.state.value)) ∧
          t.courses = s.courses ∧ t.reasons = s.reasons) ∧
        (∀ e, e ≠ sl.course → t.course e = s.course e) ∧
        t = { s.withPortUnitOf t with
          slots := t.slots, courses := t.courses, reasons := t.reasons, attn := t.attn, haltReq := t.haltReq })

/-- R66, R67: RELAY of a REJECTED slot, with every later slot of its run PLANNED and no slot that rests on it beyond PLANNED,
returns it to PLANNED: what the laying left in the record is cleared, the plan, the supports and a committed cut are kept, and
an open joint of its run that names it becomes absent. Otherwise it is refused by the first check of R66 that fails. -/
def Obligations.RelayReturnsTheSlotToPlanned : Prop :=
  (∀ (tag : Byte) (id : Nat) (sl : Slot) (s : State), s.serves (.relay tag id) = true → id < 512 →
    s.slot id = some sl → sl.state = .rejected →
    (∀ e ∈ s.slotsAt ((s.runOf sl).slotIds.drop (sl.index + 1)), e.2.state = .planned) →
    (∀ e ∈ s.laySlots (s.courseOf sl).wall, id ∈ e.2.supports → e.2.state = .planned) →
    ∃ t, exec (.relay tag id) s = .next t ∧ Answered s (.relay tag id) ⟨.p, tag, 18⟩ t Reply.okay ∧
      t.slot id = some
        { sl with
          state := .planned, gauged := none, targetLeft := none, targetJoint := none, placedTime := none
          measurement := none, rejectReasons := [], reapply := false, predicted := false, clamped := false
          cold := false, accepted := false } ∧
      (∀ j, j ≠ id → t.slot j = s.slot j) ∧
      t.run sl.run = (s.run sl.run).map (fun r =>
        { r with openJoint := r.openJoint.filter fun j => j.index ≠ sl.index }) ∧
      (∀ r, r ≠ sl.run → t.run r = s.run r) ∧
      t = { s.withPortUnitOf t with slots := t.slots, runs := t.runs }) ∧
  ∀ (tag : Byte) (id : Nat) (sl : Slot) (s : State) (i : Instr) (h : Header) (later above : List (Nat × Slot)),
    i = .relay tag id → h = ⟨.p, tag, 18⟩ → s.serves i = true → id < 512 → s.slot id = some sl →
    later = s.slotsAt ((s.runOf sl).slotIds.drop (sl.index + 1)) →
    above = (s.laySlots (s.courseOf sl).wall).filter (fun e => id ∈ e.2.supports) →
    FirstOf
      [(sl.state ≠ .rejected, AnswersUnchanged s i h (Reply.refusedWith .notRejected (u8 sl.state.value))),
        (∃ e ∈ later, e.2.state ≠ .planned,
          ∀ before e after, later = before ++ e :: after → (∀ b ∈ before, b.2.state = .planned) →
            e.2.state ≠ .planned →
            AnswersUnchanged s i h (Reply.refusedWith .notLast (u8 e.2.index ++ u8 e.2.state.value))),
        (∃ e ∈ above, e.2.state ≠ .planned,
          ∀ before e after, above = before ++ e :: after → (∀ b ∈ before, b.2.state = .planned) →
            e.2.state ≠ .planned → AnswersUnchanged s i h (Reply.refusedWith .loaded (u16 e.1)))]

/-! ### The feed queue -/

/-- R61, R92: the feed candidate is the first slot in lay order of the station's wall that is PLANNED, in an ACTIVE course, in
reach, with its run predecessor FED, ISSUED, UNCERTAIN, PLACED or VERIFIED and every support beyond PLANNED; when no slot
meets every condition there is none. Lay order is that of the wall's courses by number, within a course of its runs, and
within a run of its slots; where the records are linked as every step keeps them, it holds every slot of the wall and rises by
course number, then run order, then index. The run predecessor is the slot of the run at the index one lower. R157: a slot is
in reach when its wall is the station's, its planned span lies within the window and the top of its course is at most z_hi. -/
def Obligations.CandidateIsTheFirstFeedableSlot : Prop :=
  (∀ (s : State) (sl : Slot), s.feedable sl = true ↔
    sl.state = .planned ∧ (s.courseOf sl).state = .active ∧ s.inReach sl = true ∧
      (sl.index = 0 ∨ ∃ e, s.predecessor sl = some e ∧
        (e.2.state = .fed ∨ e.2.state = .issued ∨ e.2.state = .uncertain ∨ e.2.state = .placed ∨
          e.2.state = .verified)) ∧
      ∀ u ∈ sl.supports, ∃ b, s.slot u = some b ∧ b.state ≠ .planned) ∧
  (∀ (s : State) (id : Nat) (sl : Slot), s.candidate = some (id, sl) →
    s.slot id = some sl ∧ s.feedable sl = true ∧
      ∃ before after, s.laySlots s.station.wall = before ++ (id, sl) :: after ∧
        ∀ e ∈ before, s.feedable e.2 = false) ∧
  (∀ s : State, s.candidate = none → ∀ e ∈ s.laySlots s.station.wall, s.feedable e.2 = false) ∧
  (∀ (s : State) (sl : Slot), s.inReach sl = true ↔
    (s.courseOf sl).wall = s.station.wall ∧ s.station.xLo ≤ sl.plannedLeft ∧
      sl.plannedLeft + (if sl.closer then (s.runOf sl).closerLength.getD 0 else (s.kind sl.kind).length) ≤
        s.station.xHi ∧
      (s.courseOf sl).baseZ + (s.kind (s.courseOf sl).kind).height ≤ s.station.zHi) ∧
  ∀ (s : State) (w : Nat),
    (s.coursesOfWall w).Perm (s.courses.filter fun e => e.2.wall = w) ∧
      ((s.coursesOfWall w).Pairwise fun a b => a.2.number ≤ b.2.number) ∧
      s.laySlots w = ((s.coursesOfWall w).flatMap fun e =>
        (e.2.runIds.getD []).flatMap fun run => (((s.run run).map Run.slotIds).getD []).filterMap fun id =>
          (s.slot id).map fun sl => (id, sl)) ∧
      (s.tablesCanonical → s.loadNamesLoading → s.numbersInOrder → s.RecordsLinked →
        (∀ id sl, (id, sl) ∈ s.laySlots w ↔ s.slot id = some sl ∧ (s.courseOf sl).wall = w) ∧
        (s.laySlots w).Pairwise fun a b =>
          (s.courseOf a.2).number < (s.courseOf b.2).number ∨
            ((s.courseOf a.2).number = (s.courseOf b.2).number ∧
              ((s.runOf a.2).order < (s.runOf b.2).order ∨
                ((s.runOf a.2).order = (s.runOf b.2).order ∧ a.2.index < b.2.index)))) ∧
      ∀ (sl : Slot) (p : Nat × Slot), s.predecessor sl = some p ↔
        1 ≤ sl.index ∧ (s.runOf sl).slotIds[sl.index - 1]? = some p.1 ∧ s.slot p.1 = some p.2

/-- R94, R99, R100: PICK of a brick that the candidate takes makes the slot FED with the current generation and the gauged
length, and appends its entry, ON_BELT, at the tail. For a closer whose cut is not committed the cut is made and committed; for
one whose cut is committed it is the cut held. -/
def Obligations.PickAssignsTheBrick : Prop :=
  ∀ (tag : Byte) (kind id : Nat) (gauged : Int) (sl fed : Slot) (cut : Option Int) (limit : CutLimit) (s : State),
    s.serves (.pick tag kind gauged) = true → kind ≤ 7 → s.station.state = .parked → s.flags.severe = false →
    s.queue.length < 6 → s.candidate = some (id, sl) → kind = sl.kind →
    magnitude (gauged - (s.kind sl.kind).length) ≤ (s.kind sl.kind).lt →
    fed = { sl with state := .fed, generation := some s.generation, gauged := some gauged } →
    ((sl.closer = false ∧ cut = none ∧ limit = .none) ∨
      (sl.closer = true ∧ (s.runOf sl).closerCommitted = true ∧ cut = sl.cutLength ∧ limit = .none) ∨
      (sl.closer = true ∧ (s.runOf sl).closerCommitted = false ∧
        cut = some ((s.updateSlot id fun _ => fed).closerCut sl).1 ∧
        limit = ((s.updateSlot id fun _ => fed).closerCut sl).2)) →
    ∃ t, exec (.pick tag kind gauged) s = .next t ∧
      Answered s (.pick tag kind gauged) ⟨.f, tag, 65⟩ t
        (Reply.okWith ([s.generation] ++ u16 id ++ u8 (s.courseOf sl).wall ++ u8 (s.courseOf sl).number ++
          u8 (s.runOf sl).order ++ u8 sl.index ++ u8 ((if sl.closer then 1 else 0) + 2 * limit.value) ++
          brickField (cut.getD 0) ++ t.queueSummary)) ∧
      t.queue = s.queue ++
        [{ generation := s.generation, slot := id, kind := sl.kind, gauged := gauged, cutLength := cut
           position := .onBelt }] ∧
      t.slot id = some (if sl.closer then { fed with cutLength := cut } else fed) ∧
      (∀ j, j ≠ id → t.slot j = s.slot j) ∧
      (sl.closer = true → t.run sl.run = (s.run sl.run).map fun r => { r with closerCommitted := true }) ∧
      (sl.closer = false → t.run sl.run = s.run sl.run) ∧
      (∀ r, r ≠ sl.run → t.run r = s.run r) ∧
      t = { s.withPortUnitOf t with slots := t.slots, runs := t.runs, queue := t.queue }

/-- R94 to R98: a PICK that assigns no brick changes nothing; its answer is that of the first check that fails. The byte of
HOLD HALTED, bit 0 for SEQUENCE and bit 1 for PARK_LOST, is the model's reading (log 15). R191: the six bytes of the queue
summary, with which every answer on the feeder port ends. -/
def Obligations.PickHoldsInOrder : Prop :=
  (∀ s : State,
    (s.queue = [] → s.queueSummary = [s.generation, 0, 0, 0, 0, 0]) ∧
    ∀ e rest, s.queue = e :: rest →
      s.queueSummary = [s.generation] ++ u8 s.queue.length ++ u8 (if e.position = .atGripper then 3 else 1) ++
        [e.generation] ++ u16 e.slot) ∧
  ∀ (tag : Byte) (kind : Nat) (gauged : Int) (answer : Reply) (s : State), s.serves (.pick tag kind gauged) = true →
    ((7 < kind ∧ answer = Reply.refuse .outOfRange) ∨
      (kind ≤ 7 ∧ s.station.state ≠ .parked ∧
        answer = { answer := .hold, reason := .station, detail := u8 s.station.state.value }) ∨
      (kind ≤ 7 ∧ s.station.state = .parked ∧ s.flags.severe = true ∧
        answer = { answer := .hold, reason := .halted, detail := flagsByte [s.flags.sequence, s.flags.parkLost] }) ∨
      (kind ≤ 7 ∧ s.station.state = .parked ∧ s.flags.severe = false ∧ 6 ≤ s.queue.length ∧
        answer = Reply.plain .busy []) ∨
      (kind ≤ 7 ∧ s.station.state = .parked ∧ s.flags.severe = false ∧ s.queue.length < 6 ∧
        ((s.candidate = none ∧ answer = Reply.plain .none []) ∨
          ∃ id sl, s.candidate = some (id, sl) ∧
            ((kind ≠ sl.kind ∧ answer = Reply.refusedWith .wrongKind (u16 id ++ u8 sl.kind)) ∨
              (kind = sl.kind ∧ (s.kind sl.kind).lt < magnitude (gauged - (s.kind sl.kind).length) ∧
                answer = Reply.refusedWith .lengthOut
                  (u16 id ++ s24Field (gauged - (s.kind sl.kind).length))))))) →
    ∃ t, exec (.pick tag kind gauged) s = .next t ∧
      Answered s (.pick tag kind gauged) ⟨.f, tag, 65⟩ t { answer with detail := answer.detail ++ s.queueSummary } ∧
      t = s.withPortUnitOf t

/-- R81, R82, R83: the closer cut is the length left between the best known face below and the run's end, less the gauged
lengths and nominal joints between, rounded down to the saw step and limited to Cmin and the cut ceiling; it is a multiple of q
between them, with the indication of the limit. -/
def Obligations.CloserCutIsASawStep : Prop :=
  (∀ (s : State) (sl : Slot), s.closerCut sl = limitCut (s.kind sl.kind) s.params.sawStep (s.rawCut sl)) ∧
  (∀ (s : State) (sl : Slot) (cut : Int) (limit : CutLimit), 0 < s.params.sawStep → 0 < (s.kind sl.kind).cmin →
    (s.kind sl.kind).cmin ≤ (s.kind sl.kind).length → (s.kind sl.kind).cmin % s.params.sawStep = 0 →
    s.closerCut sl = (cut, limit) →
    cut % s.params.sawStep = 0 ∧ (s.kind sl.kind).cmin ≤ cut ∧
      cut ≤ s.params.sawStep * ((s.kind sl.kind).length / s.params.sawStep) ∧
      (limit = .none → cut ≤ s.rawCut sl ∧ s.rawCut sl < cut + s.params.sawStep)) ∧
  (∀ (s : State) (sl : Slot) (below between : List (Nat × Slot)) (p : Nat × Slot) (face : Int) (measured : Bool),
    s.slotsAt ((s.runOf sl).slotIds.take sl.index) = below ++ p :: between → s.knownFace p.2 = some (face, measured) →
    (∀ e ∈ between, s.knownFace e.2 = none) →
    s.rawCut sl = (s.runOf sl).stop - face - (between.map fun e => e.2.gauged.getD 0).sum -
      ((between.length : Int) + 1) * (s.profileOf sl).jn) ∧
  (∀ (s : State) (sl : Slot), (∀ e ∈ s.slotsAt ((s.runOf sl).slotIds.take sl.index), s.knownFace e.2 = none) →
    s.rawCut sl = (s.runOf sl).stop - (s.runOf sl).start -
      ((s.slotsAt ((s.runOf sl).slotIds.take sl.index)).map fun e => e.2.gauged.getD 0).sum -
      (sl.index : Int) * (s.profileOf sl).jn) ∧
  ∀ (k : Kind) (q c cut : Int) (limit : CutLimit), 0 < q → 0 < k.cmin → k.cmin ≤ k.length → k.cmin % q = 0 →
    limitCut k q c = (cut, limit) →
    cut % q = 0 ∧ k.cmin ≤ cut ∧ cut ≤ q * (k.length / q) ∧ cut ≤ k.length ∧
      (limit = .none → cut ≤ c ∧ c < cut + q) ∧ (limit = .low → c < k.cmin ∧ cut = k.cmin) ∧
      (limit = .high → k.length < c ∧ cut = q * (k.length / q))

/-- R102, R103, R104: DELIVERED of a stale tag is answered DISCARD; of the head while ON_BELT it makes the head AT_GRIPPER;
any other tag of the current generation is refused with SEQUENCE, with the expected slot or −1, and reported as a SEQUENCE
fault. A slot id of 512 or more is refused with OUT_OF_RANGE. That −1 is sent as two bytes of all ones is the model's reading
(log 15). -/
def Obligations.DeliveredComparesTheTag : Prop :=
  (∀ (tag generation : Byte) (id : Nat) (s : State), s.serves (.delivered tag generation id) = true → 512 ≤ id →
    AnswersUnchanged s (.delivered tag generation id) ⟨.f, tag, 66⟩ (Reply.refusedWith .outOfRange s.queueSummary)) ∧
  ∀ (tag generation : Byte) (id : Nat) (s : State), s.serves (.delivered tag generation id) = true → id < 512 →
    (generation ≠ s.generation →
      ∃ t, exec (.delivered tag generation id) s = .next t ∧
        Answered s (.delivered tag generation id) ⟨.f, tag, 66⟩ t
          { answer := .discard, reason := .none, detail := s.queueSummary } ∧ t = s.withPortUnitOf t) ∧
    (∀ e rest, s.queue = e :: rest → generation = s.generation → e.generation = generation → e.slot = id →
      e.position = .onBelt →
      ∃ t, exec (.delivered tag generation id) s = .next t ∧
        Answered s (.delivered tag generation id) ⟨.f, tag, 66⟩ t (Reply.okWith t.queueSummary) ∧
        t = { s.withPortUnitOf t with queue := { e with position := .atGripper } :: rest }) ∧
    (∀ expected : Int, generation = s.generation →
      ((s.queue = [] ∧ expected = -1) ∨
        ∃ e rest, s.queue = e :: rest ∧ expected = e.slot ∧
          (e.slot ≠ id ∨ e.generation ≠ generation ∨ e.position = .atGripper)) →
      ∃ t, exec (.delivered tag generation id) s = .next t ∧
        Answered s (.delivered tag generation id) ⟨.f, tag, 66⟩ t
          (Reply.refusedWith .sequence (s16 expected ++ s.queueSummary)) ∧
        t.flags = { s.flags with sequence := true } ∧ t.haltReq = true ∧
        t.reasons = (if s.flags.sequence then s.reasons else s.reasons ||| Reason.fault.bit) ∧
        t.processCapture = offered s.processCapture
          { cls := .sequence, severity := 4, time := s.siteTime, slot := some id
            course := (s.slot id).bind fun sl => s.capturedCourse sl.course, port := some .f, detail := expected } ∧
        t = { s.withPortUnitOf t with
          flags := t.flags, reasons := t.reasons, processCapture := t.processCapture, attn := t.attn
          haltReq := t.haltReq })

/-- R106, R109, R155: FLUSH is refused with BUSY while a slot is ISSUED or UNCERTAIN; otherwise every queued slot returns to
PLANNED without its feed generation and gauged length, the queue is empty, the generation moves on, and a drain is done. -/
def Obligations.FlushEmptiesTheBelt : Prop :=
  ∀ (tag : Byte) (s : State), s.serves (.flush tag) = true →
    (∀ e, s.inHand = some e →
      ∃ t, exec (.flush tag) s = .next t ∧
        Answered s (.flush tag) ⟨.p, tag, 20⟩ t (Reply.refusedWith .busy (u16 e.1)) ∧ t = s.withPortUnitOf t) ∧
    (s.inHand = none →
      ∃ t, exec (.flush tag) s = .next t ∧
        Answered s (.flush tag) ⟨.p, tag, 20⟩ t (Reply.okWith (u8 s.queue.length ++ [t.generation])) ∧
        t.queue = [] ∧ t.generation = s.generation + 1 ∧
        (∀ id, (∃ e ∈ s.queue, e.slot = id) →
          t.slot id = (s.slot id).map fun sl => { sl with state := .planned, generation := none, gauged := none }) ∧
        (∀ id, (∀ e ∈ s.queue, e.slot ≠ id) → t.slot id = s.slot id) ∧
        t.station = s.station.afterFeedEmpty ∧ t.reasons = s.reasonsAfterFeedEmpty ∧
        t = { s.withPortUnitOf t with
          slots := t.slots, queue := t.queue, generation := t.generation, station := t.station, reasons := t.reasons
          attn := t.attn, haltReq := t.haltReq })

/-! ### Issue and placement -/

/-- R112, R119, R120: NEXT that meets none of the eleven conditions issues the head's slot with the correction of R72 to R78,
and answers OK with its place order. -/
def Obligations.NextIssuesTheHead : Prop :=
  ∀ (tag : Byte) (e : Entry) (rest : List Entry) (sl issued : Slot) (s : State), s.serves (.next tag) = true →
    s.inHand = none → s.filters.arm.level = true → s.flags.severe = false → s.station.state.inUse = true →
    s.station.datumValid = true → s.filters.wind.level = false → s.queue = e :: rest → e.position = .atGripper →
    s.slot e.slot = some sl → s.inReach sl = true →
    (∀ p, s.predecessor sl = some p → p.2.state = .placed ∨ p.2.state = .verified) →
    (∀ u ∈ s.slotsAt sl.supports, u.2.state = .verified ∧ s.stillSetting u.2 = 0) →
    issued =
      { sl with
        state := .issued, targetLeft := some (s.correction sl).targetLeft, targetJoint := (s.correction sl).targetJoint
        predicted := (s.correction sl).predicted, clamped := (s.correction sl).clamped } →
    ∃ t, exec (.next tag) s = .next t ∧
      Answered s (.next tag) ⟨.a, tag, 33⟩ t
        (Reply.okWith (u16 e.slot ++ [sl.generation.getD 0] ++
          s24Field ((s.correction sl).targetLeft - s.station.ox) ++ s24Field (0 - s.station.oy) ++
          s24Field ((s.courseOf sl).baseZ - s.station.oz) ++ jointField ((s.correction sl).targetJoint.getD 0) ++
          brickField (s.currentLength sl) ++
          flagsByte [sl.reapply, (s.correction sl).predicted, (s.correction sl).clamped, sl.closer, true,
            (s.correction sl).targetJoint.isSome] ++ u8 SlotState.issued.value)) ∧
      t.slot e.slot = some issued ∧ (∀ j, j ≠ e.slot → t.slot j = s.slot j) ∧
      t = { s.withPortUnitOf t with slots := t.slots }

/-- R112 to R118: the first of the eleven conditions of NEXT that holds gives the answer, and nothing changes. The first part
is conditions 1 to 7, the second conditions 8 to 11 for a head at the gripper. R114, R120, R190: while a slot is ISSUED the
answer is BUSY and repeats its place order, from the slot's target, current length and flags and the datum offsets as they
stand. R118: what a support still has to stand. The bytes of WAIT HALTED, of WAIT NO_BRICK and of BUSY for an UNCERTAIN slot,
all zeros but the slot id and the state, are the model's readings (log 15). -/
def Obligations.NextWaitsInOrder : Prop :=
  (∀ s : State,
    (∀ e, s.inHand = some e → e ∈ s.slots ∧ (e.2.state = .issued ∨ e.2.state = .uncertain)) ∧
    (s.inHand = none → ∀ e ∈ s.slots, e.2.state ≠ .issued ∧ e.2.state ≠ .uncertain) ∧
    ∀ sl : Slot, (sl.placedTime = none → s.stillSetting sl = 0) ∧
      ∀ placed, sl.placedTime = some placed → s.stillSetting sl = s.params.setTime - elapsed s.siteTime placed) ∧
  (∀ (tag : Byte) (answer : Reply) (s : State), s.serves (.next tag) = true →
      ((∃ id sl, s.inHand = some (id, sl) ∧
          ((sl.state = .issued ∧
              answer = Reply.plain .busy
                (u16 id ++ [sl.generation.getD 0] ++ s24Field (sl.targetLeft.getD 0 - s.station.ox) ++
                  s24Field (0 - s.station.oy) ++ s24Field ((s.courseOf sl).baseZ - s.station.oz) ++
                  u8 (sl.targetJoint.getD 0).toNat ++ u16 (s.currentLength sl).toNat ++
                  flagsByte [sl.reapply, sl.predicted, sl.clamped, sl.closer, true, sl.targetJoint.isSome] ++ u8 3)) ∨
            (sl.state = .uncertain ∧ answer = Reply.plain .busy (u16 id ++ List.replicate 14 0 ++ u8 4)))) ∨
        (s.inHand = none ∧
          ((s.filters.arm.level = false ∧ answer = Reply.refuse .armNotReady) ∨
            (s.filters.arm.level = true ∧
              ((s.flags.severe = true ∧
                  answer = Reply.waitFor .halted (flagsByte [s.flags.sequence, s.flags.parkLost])) ∨
                (s.flags.severe = false ∧
                  ((s.station.state.inUse = false ∧ answer = Reply.waitFor .station (u8 s.station.state.value)) ∨
                    (s.station.state.inUse = true ∧
                      ((s.station.datumValid = false ∧ answer = Reply.waitFor .datum []) ∨
                        (s.station.datumValid = true ∧
                          ((s.filters.wind.level = true ∧ answer = Reply.waitFor .wind []) ∨
                            (s.filters.wind.level = false ∧
                              (∀ e, s.queue.head? = some e → e.position = .onBelt) ∧
                              answer = Reply.waitFor .noBrick
                                (optField 4 (fun (e : Entry) =>
                                  [e.generation] ++ u16 e.slot ++ u8 (if e.position = .atGripper then 1 else 0))
                                  s.queue.head?))))))))))))) →
      ∃ t, exec (.next tag) s = .next t ∧ Answered s (.next tag) ⟨.a, tag, 33⟩ t answer ∧ t = s.withPortUnitOf t) ∧
    ∀ (tag : Byte) (e : Entry) (rest : List Entry) (sl : Slot) (answer : Reply) (s : State), s.serves (.next tag) = true →
      s.inHand = none → s.filters.arm.level = true → s.flags.severe = false → s.station.state.inUse = true →
      s.station.datumValid = true → s.filters.wind.level = false → s.queue = e :: rest → e.position = .atGripper →
      s.slot e.slot = some sl →
      ((s.inReach sl = false ∧ answer = Reply.waitFor .reach (u16 e.slot)) ∨
        (s.inReach sl = true ∧
          ((∃ p, s.predecessor sl = some p ∧ p.2.state ≠ .placed ∧ p.2.state ≠ .verified ∧
              answer = Reply.waitFor .predecessor (u16 p.1 ++ u8 p.2.state.value)) ∨
            ((∀ p, s.predecessor sl = some p → p.2.state = .placed ∨ p.2.state = .verified) ∧
              ((∃ before u after, s.slotsAt sl.supports = before ++ u :: after ∧
                  (∀ b ∈ before, b.2.state = .verified) ∧ u.2.state ≠ .verified ∧
                  answer = Reply.waitFor .support (u16 u.1 ++ u8 u.2.state.value)) ∨
                ((∀ u ∈ s.slotsAt sl.supports, u.2.state = .verified) ∧
                  ∃ left, 0 < left ∧ (∀ u ∈ s.slotsAt sl.supports, s.stillSetting u.2 ≤ left) ∧
                    (∃ u ∈ s.slotsAt sl.supports, s.stillSetting u.2 = left) ∧
                    answer = Reply.waitFor .setting (u32 left))))))) →
      ∃ t, exec (.next tag) s = .next t ∧ Answered s (.next tag) ⟨.a, tag, 33⟩ t answer ∧ t = s.withPortUnitOf t

/-- R73 to R78: the correction of a slot of index 1 or more. The reference face is limited to the Solver's range; the share is
the length left over the joints still to be made, rounded to nearest; the target joint is Jmin when the share is below Jmin,
Jmax when it is above Jmax and the share otherwise, so it lies within the profile; the target left face is the face plus the
joint. The clamped flag is set exactly when the joint differs from the share or the face lay outside the Solver's range, the
predicted flag exactly when the face is not a measured one. R72: a slot of index 0 takes the run's start with no joint and
both flags clear. R70: the current length is the cut length of a closer that has one, else the gauged length, else the planned
length. R71: the known face is the measured one, else the target, of a slot that is neither PLANNED nor FED. R74: the length
left counts the current lengths from the slot on. -/
def Obligations.IssueJointIsTheShareWithinTheProfile : Prop :=
  (∀ (s : State) (sl : Slot) (p : Nat × Slot) (face : Int) (measured : Bool) (k : Profile),
    sl.index ≠ 0 → sl.index < (s.runOf sl).n → k = s.profileOf sl →
    s.predecessor sl = some p → s.knownFace p.2 = some (face, measured) →
    ∃ e joints g share joint : Int,
      e = max (-7888608) (min 7884357 face) ∧ joints = (s.runOf sl).n - sl.index ∧
      g = s.gap (s.runOf sl) sl.index e ∧
      share = (2 * g + joints) / (2 * joints) ∧ 2 * g - joints < 2 * joints * share ∧
      2 * joints * share ≤ 2 * g + joints ∧
      joint = (if share < k.jmin then k.jmin else if k.jmax < share then k.jmax else share) ∧
      (k.jmin ≤ k.jmax → k.jmin ≤ joint ∧ joint ≤ k.jmax) ∧
      (s.correction sl).targetJoint = some joint ∧ (s.correction sl).targetLeft = e + joint ∧
      ((s.correction sl).predicted = true ↔ measured = false) ∧
      ((s.correction sl).clamped = true ↔ joint ≠ share ∨ face < -7888608 ∨ 7884357 < face)) ∧
  (∀ (s : State) (sl : Slot), sl.index = 0 →
    s.correction sl =
      { targetLeft := (s.runOf sl).start, targetJoint := none, predicted := false, clamped := false }) ∧
  (∀ (s : State) (sl : Slot),
    (∀ cut, sl.closer = true → sl.cutLength = some cut → s.currentLength sl = cut) ∧
    (∀ gauged, sl.closer = false ∨ sl.cutLength = none → sl.gauged = some gauged → s.currentLength sl = gauged) ∧
    (sl.closer = false → sl.gauged = none → s.currentLength sl = (s.kind sl.kind).length) ∧
    (sl.closer = true → sl.cutLength = none → sl.gauged = none →
      s.currentLength sl = (s.runOf sl).closerLength.getD 0)) ∧
  (∀ (s : State) (sl : Slot),
    (sl.state = .planned ∨ sl.state = .fed → s.knownFace sl = none) ∧
    (sl.state ≠ .planned → sl.state ≠ .fed →
      (∀ m, sl.measurement = some m → s.knownFace sl = some (m.xRight, true)) ∧
      (∀ left, sl.measurement = none → sl.targetLeft = some left →
        s.knownFace sl = some (left + s.currentLength sl, false)))) ∧
  ∀ (s : State) (r : Run) (k : Nat) (face : Int),
    s.gap r k face = r.stop - face - ((s.slotsAt (r.slotIds.drop k)).map fun e => s.currentLength e.2).sum

/-- R121, R122, R126: PLACED of a slot that is ISSUED or UNCERTAIN makes it PLACED now, takes the head from the queue, sets
the run's open joint (absent for the last slot), and answers LATE for a cold slot and OK otherwise. A slot that holds a
measurement is verified against it in the same service, with what R143 to R145 say of flags, capture, reasons and course
(`Judged`); one that holds none stands PLACED, and no flag, capture or course changes. DRAINED is raised when the drain is
done. -/
def Obligations.PlacedLaysTheBrick : Prop :=
  ∀ (tag : Byte) (id : Nat) (sl : Slot) (s : State), s.serves (.placed tag id) = true → id < 512 →
    s.slot id = some sl → sl.state = .issued ∨ sl.state = .uncertain →
    ∃ t, exec (.placed tag id) s = .next t ∧
      (∃ state, (t.slot id).map Slot.state = some state ∧
        Answered s (.placed tag id) ⟨.a, tag, 34⟩ t
          (Reply.plain (if sl.cold then .late else .ok) (u8 state.value))) ∧
      (sl.measurement = none →
        t.slot id = some (sl.placedAt s.siteTime) ∧ t.courses = s.courses ∧ t.flags = s.flags ∧
        t.geometryCapture = s.geometryCapture ∧ t.reasons = s.reasonsAfterHead) ∧
      (∀ m, sl.measurement = some m →
        t.slot id = some ((sl.placedAt s.siteTime).verifiedWith (s.failures sl m)) ∧
        Judged s t id sl.course .a s.reasonsAfterHead (s.failures sl m)) ∧
      (∀ j, j ≠ id → t.slot j = s.slot j) ∧ t.queue = s.queue.tail ∧
      t.run sl.run = (s.run sl.run).map (fun r =>
        { r with
          openJoint := if sl.index + 1 = r.n then none
            else some { index := sl.index, deadline := s.siteTime + BitVec.ofNat 32 (s.profileOf sl).tOpen } }) ∧
      (∀ r, r ≠ sl.run → t.run r = s.run r) ∧
      t.station = (if s.queue.tail = [] then s.station.afterFeedEmpty else s.station) ∧
      t = { s.withPortUnitOf t with
        slots := t.slots, runs := t.runs, queue := t.queue, station := t.station, courses := t.courses
        flags := t.flags, geometryCapture := t.geometryCapture, reasons := t.reasons, attn := t.attn
        haltReq := t.haltReq }

/-- R123: PLACED of a slot in any other live state is answered DUPLICATE when the slot is laid and REFUSED NOT_ISSUED when it
is not, each with the slot's state, without change to any record. -/
def Obligations.PlacedElsewhereChangesNothing : Prop :=
  ∀ (tag : Byte) (id : Nat) (sl : Slot) (s : State), s.serves (.placed tag id) = true → id < 512 →
    s.slot id = some sl →
    (sl.state = .placed ∨ sl.state = .verified ∨ sl.state = .rejected →
      ∃ t, exec (.placed tag id) s = .next t ∧
        Answered s (.placed tag id) ⟨.a, tag, 34⟩ t (Reply.plain .duplicate (u8 sl.state.value)) ∧
        t = s.withPortUnitOf t) ∧
    (sl.state = .planned ∨ sl.state = .fed →
      ∃ t, exec (.placed tag id) s = .next t ∧
        Answered s (.placed tag id) ⟨.a, tag, 34⟩ t (Reply.refusedWith .notIssued (u8 sl.state.value)) ∧
        t = s.withPortUnitOf t)

/-- R124: DECLINE of an ISSUED slot makes it FED without its target and keeps everything else; in any other live state it is
refused with NOT_ISSUED and the slot's state. -/
def Obligations.DeclineGivesTheOrderBack : Prop :=
  ∀ (tag : Byte) (id : Nat) (sl : Slot) (s : State), s.serves (.decline tag id) = true → id < 512 →
    s.slot id = some sl →
    (sl.state = .issued →
      ∃ t, exec (.decline tag id) s = .next t ∧ Answered s (.decline tag id) ⟨.a, tag, 35⟩ t Reply.okay ∧
        t.slot id = some { sl with state := .fed, targetLeft := none, targetJoint := none } ∧
        (∀ j, j ≠ id → t.slot j = s.slot j) ∧ t = { s.withPortUnitOf t with slots := t.slots }) ∧
    (sl.state ≠ .issued →
      ∃ t, exec (.decline tag id) s = .next t ∧
        Answered s (.decline tag id) ⟨.a, tag, 35⟩ t (Reply.refusedWith .notIssued (u8 sl.state.value)) ∧
        t = s.withPortUnitOf t)

/-- R127: when T_open has elapsed since a run's open joint was set, the open joint becomes absent, and the next slot of the run
has its re-apply flag set if it is PLANNED or FED and its cold flag if it is ISSUED or UNCERTAIN; before that nothing happens
(log 4). -/
def Obligations.OpenJointExpiryMarksTheNextSlot : Prop :=
  (∀ (s : State) (r : Run) (c : Course), s.course r.course = some c → s.openTime r = (s.profile c.profile).tOpen) ∧
  ∀ (id : Nat) (r : Run) (j : OpenJoint) (s : State), s.hold = .running → s.run id = some r → r.openJoint = some j →
    (s.openTime r ≤ elapsed s.siteTime (j.deadline - BitVec.ofNat 32 (s.openTime r)) →
      ∃ t, exec (.openJointExpiry id) s = .next t ∧ t.run id = some { r with openJoint := none } ∧
        (∀ k, k ≠ id → t.run k = s.run k) ∧
        (∀ next sl, r.slotIds[j.index + 1]? = some next → s.slot next = some sl →
          (sl.state = .planned ∨ sl.state = .fed → t.slot next = some { sl with reapply := true }) ∧
          (sl.state = .issued ∨ sl.state = .uncertain → t.slot next = some { sl with cold := true })) ∧
        (∀ k, r.slotIds[j.index + 1]? ≠ some k → t.slot k = s.slot k) ∧
        t = { s with runs := t.runs, slots := t.slots }) ∧
    (elapsed s.siteTime (j.deadline - BitVec.ofNat 32 (s.openTime r)) < s.openTime r →
      exec (.openJointExpiry id) s = .next s)

/-! ### Measurement and verification -/

/-- R134 to R138: MEASURE of an ISSUED slot holds the measurement; of a PLACED slot it stores and verifies; of an UNCERTAIN
slot it is the placement too, now, and then verifies; each verification does what R143 to R145 say (`Judged`). Of a VERIFIED
or REJECTED slot it is answered DUPLICATE, of a PLANNED or FED one NOT_PLACED, and nothing changes. The reject reasons in the
answer, one byte each and no count, are the model's choice (log 13), and so is it that no presence byte stands before them
and nothing in their place for a VERIFIED slot (log 24). -/
def Obligations.MeasureStoresAndVerifies : Prop :=
  ∀ (tag : Byte) (id : Nat) (x y z : Int) (sl held : Slot) (m : Measurement) (l : List Failure) (s : State),
    s.serves (.measure tag id x y z) = true → id < 512 → s.slot id = some sl →
    m = { xRight := x, yOff := y, zTop := z } → held = { sl with measurement := some m } →
    l = (s.updateSlot id fun x => { x with measurement := some m }).failures sl m →
    (sl.state = .issued →
      ∃ t, exec (.measure tag id x y z) s = .next t ∧
        Answered s (.measure tag id x y z) ⟨.t, tag, 49⟩ t (Reply.plain .held []) ∧
        t.slot id = some held ∧ (∀ j, j ≠ id → t.slot j = s.slot j) ∧
        t = { s.withPortUnitOf t with slots := t.slots }) ∧
    (sl.state = .placed →
      ∃ t, exec (.measure tag id x y z) s = .next t ∧
        Answered s (.measure tag id x y z) ⟨.t, tag, 49⟩ t (Reply.okWith
          (if l = [] then u8 6 else u8 7 ++ l.map fun f => Config.rejectCode f.reason.severity)) ∧
        t.slot id = some (held.verifiedWith l) ∧
        (∀ j, j ≠ id → t.slot j = s.slot j) ∧
        Judged s t id sl.course .t s.reasons l ∧
        t = { s.withPortUnitOf t with
          slots := t.slots, courses := t.courses, flags := t.flags, geometryCapture := t.geometryCapture
          reasons := t.reasons, attn := t.attn, haltReq := t.haltReq }) ∧
    (sl.state = .uncertain →
      ∃ t, exec (.measure tag id x y z) s = .next t ∧
        Answered s (.measure tag id x y z) ⟨.t, tag, 49⟩ t (Reply.okWith
          (if l = [] then u8 6 else u8 7 ++ l.map fun f => Config.rejectCode f.reason.severity)) ∧
        t.slot id = some ((held.placedAt s.siteTime).verifiedWith l) ∧
        (∀ j, j ≠ id → t.slot j = s.slot j) ∧ t.queue = s.queue.tail ∧
        t.run sl.run = (s.run sl.run).map (fun r =>
          { r with
            openJoint := if sl.index + 1 = r.n then none
              else some { index := sl.index, deadline := s.siteTime + BitVec.ofNat 32 (s.profileOf sl).tOpen } }) ∧
        (∀ r, r ≠ sl.run → t.run r = s.run r) ∧
        t.station = (if s.queue.tail = [] then s.station.afterFeedEmpty else s.station) ∧
        Judged s t id sl.course .t s.reasonsAfterHead l ∧
        t = { s.withPortUnitOf t with
          slots := t.slots, runs := t.runs, queue := t.queue, station := t.station, courses := t.courses
          flags := t.flags, geometryCapture := t.geometryCapture, reasons := t.reasons, attn := t.attn
          haltReq := t.haltReq }) ∧
    (sl.state = .planned ∨ sl.state = .fed →
      AnswersUnchanged s (.measure tag id x y z) ⟨.t, tag, 49⟩ (Reply.refusedWith .notPlaced (u8 sl.state.value))) ∧
    (sl.state = .verified ∨ sl.state = .rejected →
      AnswersUnchanged s (.measure tag id x y z) ⟨.t, tag, 49⟩ (Reply.plain .duplicate (u8 sl.state.value)))

/-- R139, R140, R144, R145: ABSENT of an UNCERTAIN slot makes it FED without its target; of a PLACED slot it rejects it as
MISSING (after COLD_JOINT for a cold one) and reports the rejection at the severity of the first reason, with detail 0. -/
def Obligations.AbsentSettlesTheSlot : Prop :=
  ∀ (tag : Byte) (id : Nat) (sl : Slot) (s : State), s.serves (.absent tag id) = true → id < 512 →
    s.slot id = some sl →
    (sl.state = .uncertain →
      ∃ t, exec (.absent tag id) s = .next t ∧
        Answered s (.absent tag id) ⟨.t, tag, 50⟩ t (Reply.okWith (u8 SlotState.fed.value)) ∧
        t.slot id = some { sl with state := .fed, targetLeft := none, targetJoint := none } ∧
        (∀ j, j ≠ id → t.slot j = s.slot j) ∧ t = { s.withPortUnitOf t with slots := t.slots }) ∧
    (sl.state = .placed →
      ∃ t, exec (.absent tag id) s = .next t ∧
        Answered s (.absent tag id) ⟨.t, tag, 50⟩ t (Reply.okWith (u8 SlotState.rejected.value)) ∧
        t.slot id = some
          { sl with
            state := .rejected, rejectReasons := if sl.cold then [.coldJoint, .missing] else [.missing] } ∧
        (∀ j, j ≠ id → t.slot j = s.slot j) ∧ t.flags = { s.flags with reject := true } ∧
        t.reasons = s.reasons ||| Reason.slotRejected.bit ∧
        t.geometryCapture = offered s.geometryCapture
          { cls := .geometry, severity := if sl.cold then 7 else 6, time := s.siteTime, slot := some id
            course := s.capturedCourse sl.course, port := some .t, detail := 0 } ∧
        t = { s.withPortUnitOf t with
          slots := t.slots, flags := t.flags, reasons := t.reasons, geometryCapture := t.geometryCapture
          attn := t.attn, haltReq := t.haltReq }) ∧
    (sl.state ≠ .uncertain → sl.state ≠ .placed →
      ∃ t, exec (.absent tag id) s = .next t ∧
        Answered s (.absent tag id) ⟨.t, tag, 50⟩ t (Reply.refusedWith .notApplicable (u8 sl.state.value)) ∧
        t = s.withPortUnitOf t)

/-- R142: each check of a verification fails on exactly its condition, MISSING on none; the codes of those that fail stand the
most severe first, each once; the codes have the severities 7 to 1 of the table; and each has the deviation of the table. -/
def Obligations.VerificationJudgesEveryTolerance : Prop :=
  ∀ (s : State) (sl : Slot) (m : Measurement) (codes : List RejectReason), codes = (s.failures sl m).map Failure.reason →
    (.coldJoint ∈ codes ↔ sl.cold = true) ∧ .missing ∉ codes ∧
    (.height ∈ codes ↔ s.params.tolZ < magnitude (m.zTop - s.topOf (s.courseOf sl))) ∧
    (.plane ∈ codes ↔ s.params.tolY < magnitude m.yOff) ∧
    (.endFace ∈ codes ↔ sl.index + 1 = (s.runOf sl).n ∧ s.params.tolEnd < magnitude (m.xRight - (s.runOf sl).stop)) ∧
    (.position ∈ codes ↔ s.params.tolX < magnitude (m.xRight - s.targetRight sl)) ∧
    (.joint ∈ codes ↔ ∃ p q, s.predecessor sl = some p ∧ p.2.measurement = some q ∧
      (m.xRight - s.currentLength sl - q.xRight < (s.profileOf sl).jmin - s.params.tolJoint ∨
        (s.profileOf sl).jmax + s.params.tolJoint < m.xRight - s.currentLength sl - q.xRight)) ∧
    (codes.map RejectReason.severity).Pairwise (· > ·) ∧
    [RejectReason.coldJoint, .missing, .height, .plane, .endFace, .position, .joint].map RejectReason.severity =
      [7, 6, 5, 4, 3, 2, 1] ∧
    ∀ f ∈ s.failures sl m,
      (f.reason = .coldJoint → f.deviation = none) ∧
      (f.reason = .height → f.deviation = some (m.zTop - s.topOf (s.courseOf sl))) ∧
      (f.reason = .plane → f.deviation = some m.yOff) ∧
      (f.reason = .endFace → f.deviation = some (m.xRight - (s.runOf sl).stop)) ∧
      (f.reason = .position → f.deviation = some (m.xRight - s.targetRight sl)) ∧
      (f.reason = .joint → ∃ p q joint, s.predecessor sl = some p ∧ p.2.measurement = some q ∧
        joint = m.xRight - s.currentLength sl - q.xRight ∧
        f.deviation = some (if joint < (s.profileOf sl).jmin - s.params.tolJoint
          then joint - ((s.profileOf sl).jmin - s.params.tolJoint)
          else joint - ((s.profileOf sl).jmax + s.params.tolJoint)))

/-! ### The station -/

/-- R150 to R154: STATION SET writes the window and parks the station with the datum not valid; DATUM writes the offsets and
the skew and makes the datum valid; STATION MOVE of a PARKED station starts a drain, or, with an empty queue, is done at once;
in DRAINING and MOVING it changes nothing, and in UNSET and LOST it is refused with BAD_STATE. STATION SET and DATUM are
otherwise answered by the first check of R150 and of R152 that fails. The two skews of DATUM_SKEW in two signed bytes each,
and the offset of DATUM_RANGE, are the model's readings (logs 14 and 15). -/
def Obligations.StationSetDatumAndMove : Prop :=
  (∀ (tag : Byte) (w : Nat) (xLo xHi zHi : Int) (r : Wall) (s : State),
      s.serves (.stationSet tag w xLo xHi zHi) = true → w ≤ 3 → 1 ≤ zHi → zHi ≤ 8388607 →
      s.station.state ≠ .parked → s.station.state ≠ .draining → s.filters.parked.level = true → s.wall w = some r →
      0 ≤ xLo → xHi ≤ r.length → xLo < xHi → xHi - xLo ≤ 80000 →
      ∃ t, exec (.stationSet tag w xLo xHi zHi) s = .next t ∧
        Answered s (.stationSet tag w xLo xHi zHi) ⟨.p, tag, 22⟩ t
          (Reply.okWith (u8 StationState.parked.value ++ u8 w)) ∧
        t = { s.withPortUnitOf t with
          station :=
            { s.station with state := .parked, wall := w, xLo := xLo, xHi := xHi, zHi := zHi, datumValid := false } }) ∧
    (∀ (tag : Byte) (ox oy oz skew : Int) (s : State), s.serves (.datum tag ox oy oz skew) = true →
      s.station.state = .parked ∨ s.station.state = .draining → s.inHand = none → -500000 ≤ ox → ox ≤ 500000 →
      -500000 ≤ oy → oy ≤ 500000 → -500000 ≤ oz → oz ≤ 500000 → magnitude skew ≤ s.params.maxSkew →
      ∃ t, exec (.datum tag ox oy oz skew) s = .next t ∧
        Answered s (.datum tag ox oy oz skew) ⟨.t, tag, 51⟩ t Reply.okay ∧
        t = { s.withPortUnitOf t with
          station := { s.station with ox := ox, oy := oy, oz := oz, skew := skew, datumValid := true } }) ∧
    (∀ (tag : Byte) (s : State), s.serves (.stationMove tag) = true → s.station.state = .parked → s.queue ≠ [] →
      ∃ t, exec (.stationMove tag) s = .next t ∧
        Answered s (.stationMove tag) ⟨.p, tag, 23⟩ t
          (Reply.okWith (u8 StationState.draining.value ++ u8 s.queue.length)) ∧
        t = { s.withPortUnitOf t with station := { s.station with state := .draining } }) ∧
    (∀ (tag : Byte) (s : State), s.serves (.stationMove tag) = true →
      s.station.state = .draining ∨ s.station.state = .moving →
      ∃ t, exec (.stationMove tag) s = .next t ∧
        Answered s (.stationMove tag) ⟨.p, tag, 23⟩ t (Reply.okWith (u8 s.station.state.value)) ∧
        t = s.withPortUnitOf t) ∧
    (∀ (tag : Byte) (s : State), s.serves (.stationMove tag) = true →
      s.station.state = .unset ∨ s.station.state = .lost →
      ∃ t, exec (.stationMove tag) s = .next t ∧
        Answered s (.stationMove tag) ⟨.p, tag, 23⟩ t (Reply.refusedWith .badState (u8 s.station.state.value)) ∧
        t = s.withPortUnitOf t) ∧
    (∀ (tag : Byte) (s : State), s.serves (.stationMove tag) = true → s.station.state = .parked → s.queue = [] →
      ∃ t, exec (.stationMove tag) s = .next t ∧
        Answered s (.stationMove tag) ⟨.p, tag, 23⟩ t (Reply.okWith (u8 StationState.moving.value)) ∧
        t.reasons = s.reasons ||| Reason.drained.bit ∧
        t = { s.withPortUnitOf t with
          station := { s.station with state := .moving, datumValid := false }, reasons := t.reasons, attn := t.attn
          haltReq := t.haltReq }) ∧
    (∀ (tag : Byte) (w : Nat) (xLo xHi zHi : Int) (s : State) (i : Instr) (h : Header),
      i = .stationSet tag w xLo xHi zHi → h = ⟨.p, tag, 22⟩ → s.serves i = true →
      FirstOf
        [(¬ (w ≤ 3 ∧ 1 ≤ zHi ∧ zHi ≤ 8388607), AnswersUnchanged s i h (Reply.refuse .outOfRange)),
          (s.station.state = .parked ∨ s.station.state = .draining,
            AnswersUnchanged s i h (Reply.refusedWith .badState (u8 s.station.state.value))),
          (s.filters.parked.level = false, AnswersUnchanged s i h (Reply.refuse .notParked)),
          (s.wall w = none, RefusesNoRecord s i h (1 * 65536 + w : Nat)),
          (∃ r, s.wall w = some r ∧ (xLo < 0 ∨ r.length < xHi ∨ xHi ≤ xLo ∨ 80000 < xHi - xLo),
            AnswersUnchanged s i h (Reply.refuse .outOfRange))]) ∧
    ∀ (tag : Byte) (ox oy oz skew : Int) (s : State) (i : Instr) (h : Header), i = .datum tag ox oy oz skew →
      h = ⟨.t, tag, 51⟩ → s.serves i = true →
      FirstOf
        [(s.station.state ≠ .parked ∧ s.station.state ≠ .draining,
            AnswersUnchanged s i h (Reply.refusedWith .badState (u8 s.station.state.value))),
          (s.inHand ≠ none, ∀ e, s.inHand = some e → AnswersUnchanged s i h (Reply.plain .busy (u16 e.1))),
          (ox < -500000 ∨ 500000 < ox, AnswersUnchanged s i h (Reply.refusedWith .datumRange (s24Field ox))),
          (oy < -500000 ∨ 500000 < oy, AnswersUnchanged s i h (Reply.refusedWith .datumRange (s24Field oy))),
          (oz < -500000 ∨ 500000 < oz, AnswersUnchanged s i h (Reply.refusedWith .datumRange (s24Field oz))),
          (s.params.maxSkew < magnitude skew,
            AnswersUnchanged s i h (Reply.refusedWith .datumSkew (s16 skew ++ s16 s.params.maxSkew)))]

/-! ### Lines, site time and resets -/

/-- R175, R176: site time rises by one and wraps; a raw level that changes starts a fresh wait, which gives an edge only after
10 ms, and only if the new level differs from the filtered one. -/
def Obligations.EdgesNeedTenMilliseconds : Prop :=
  (∀ s : State, s.hold = .running → exec .siteTimeIncrement s = .next { s with siteTime := s.siteTime + 1 }) ∧
    (∀ (line : Line) (b : Bool) (s : State), (s.filters.get line).raw = b → exec (.rawInputChange line b) s = .next s) ∧
    ∀ (line : Line) (b : Bool) (s : State), s.hold = .running → (s.filters.get line).raw ≠ b →
      ∃ t, exec (.rawInputChange line b) s = .next t ∧
        (t.filters.get line).raw = b ∧ (t.filters.get line).level = (s.filters.get line).level ∧
        (∀ other, other ≠ line → t.filters.get other = s.filters.get other) ∧
        t = { s with filters := t.filters } ∧
        (∀ n < 10, (t.filters.get line).edgeDue (t.siteTime + BitVec.ofNat 32 n) = false) ∧
        ∀ n, 10 ≤ n → n < 4294967296 →
          (t.filters.get line).edgeDue (t.siteTime + BitVec.ofNat 32 n) = (b != (s.filters.get line).level)

/-- R177, R178: at an edge that has no effect on a block (ARM_READY and TRUCK_PARKED rising, GROUND_SHIFT falling, WIND_HOLD
either way) the filtered level takes the raw level, and the line's reason is raised when the edge has the direction of the
line's sense. The command of any edge that the filter does not give at that moment, be it not due or in the other direction,
changes nothing (the model's choice, log 4). -/
def Obligations.EdgesWithoutEffectOnABlock : Prop :=
  (∀ (i : Instr) (line : Line) (rising : Bool) (s : State), s.hold = .running →
    ((i = .armReadyFalling ∧ line = .armReady ∧ rising = false) ∨
      (i = .armReadyRising ∧ line = .armReady ∧ rising = true) ∨
      (i = .truckParkedFalling ∧ line = .truckParked ∧ rising = false) ∨
      (i = .truckParkedRising ∧ line = .truckParked ∧ rising = true) ∨
      (i = .groundShiftFalling ∧ line = .groundShift ∧ rising = false) ∨
      (i = .groundShiftRising ∧ line = .groundShift ∧ rising = true) ∨
      (i = .windHoldEdge ∧ line = .windHold ∧ rising = s.filters.wind.raw)) →
    (s.filters.get line).edgeDue s.siteTime = false ∨ (s.filters.get line).raw ≠ rising → exec i s = .next s) ∧
  ∀ (i : Instr) (line : Line) (rising : Bool) (s : State), s.hold = .running →
    ((i = .armReadyRising ∧ line = .armReady ∧ rising = true) ∨
      (i = .truckParkedRising ∧ line = .truckParked ∧ rising = true) ∨
      (i = .groundShiftFalling ∧ line = .groundShift ∧ rising = false) ∨
      (i = .windHoldEdge ∧ line = .windHold ∧ rising = s.filters.wind.raw)) →
    ((s.filters.get line).edgeDue s.siteTime = false → exec i s = .next s) ∧
    ((s.filters.get line).edgeDue s.siteTime = true → (s.filters.get line).raw = rising →
      ∃ t, exec i s = .next t ∧
        t.filters = s.filters.put line { s.filters.get line with level := rising } ∧
        t.reasons = (if s.senses.get line = (if rising then .rising else .falling)
          then s.reasons ||| (lineReason line).bit else s.reasons) ∧
        t = { s with filters := t.filters, reasons := t.reasons, attn := t.attn, haltReq := t.haltReq })

/-- R158: a filtered falling edge of TRUCK_PARKED at a station in use makes it LOST with the datum not valid, reports PARK_LOST
at severity 4 with the ISSUED slot and the number of entries, and makes an ISSUED slot UNCERTAIN; at another station it
changes no station, datum, slot or fault. -/
def Obligations.TruckParkedFallingLosesTheStation : Prop :=
  ∀ s : State, s.hold = .running → s.filters.parked.edgeDue s.siteTime = true → s.filters.parked.raw = false →
    (s.station.state = .parked ∨ s.station.state = .draining →
      ∃ t, exec .truckParkedFalling s = .next t ∧
        t.station = { s.station with state := .lost, datumValid := false } ∧
        t.flags = { s.flags with parkLost := true } ∧ t.haltReq = true ∧
        t.processCapture = offered s.processCapture
          { cls := .parkLost, severity := 4, time := s.siteTime, slot := s.issuedSlot.map Prod.fst
            course := s.issuedSlot.bind fun e => s.capturedCourse e.2.course
            port := none, detail := s.queue.length } ∧
        (∀ id sl, s.issuedSlot = some (id, sl) → s.slot id = some sl →
          t.slot id = some { sl with state := .uncertain } ∧ (∀ j, j ≠ id → t.slot j = s.slot j)) ∧
        (s.issuedSlot = none → t.slots = s.slots) ∧
        t.reasons = s.reasons ||| (if s.flags.parkLost then 0 else Reason.fault.bit) |||
          (if s.issuedSlot.isSome then Reason.slotUncertain.bit else 0) |||
          (if s.senses.parked = .falling then Reason.lineParked.bit else 0) ∧
        t = { s with
          slots := t.slots, filters := { s.filters with parked := { s.filters.parked with level := false } }
          station := t.station, flags := t.flags, processCapture := t.processCapture, reasons := t.reasons
          attn := t.attn, haltReq := t.haltReq }) ∧
    (s.station.state ≠ .parked → s.station.state ≠ .draining →
      ∃ t, exec .truckParkedFalling s = .next t ∧
        t.reasons = s.reasons ||| (if s.senses.parked = .falling then Reason.lineParked.bit else 0) ∧
        t = { s with
          filters := { s.filters with parked := { s.filters.parked with level := false } }
          reasons := t.reasons, attn := t.attn, haltReq := t.haltReq })

/-- R129, R160: a filtered falling edge of ARM_READY makes an ISSUED slot UNCERTAIN and raises SLOT_UNCERTAIN; its other
fields, the queue and every clock are kept; with no slot ISSUED it changes no slot. A filtered rising edge of GROUND_SHIFT at
a station in use makes the datum not valid and raises DATUM_LOST, whether or not the datum was valid, and keeps the station's
state; at another station it does neither. -/
def Obligations.ArmReadyFallsAndTheGroundShifts : Prop :=
  (∀ s : State, (∀ e, s.issuedSlot = some e → e ∈ s.slots ∧ e.2.state = .issued) ∧
      (s.issuedSlot = none → ∀ e ∈ s.slots, e.2.state ≠ .issued)) ∧
  (∀ s : State, s.hold = .running → s.filters.arm.edgeDue s.siteTime = true → s.filters.arm.raw = false →
      (∀ id sl, s.issuedSlot = some (id, sl) → s.slot id = some sl →
        ∃ t, exec .armReadyFalling s = .next t ∧ t.slot id = some { sl with state := .uncertain } ∧
          (∀ j, j ≠ id → t.slot j = s.slot j) ∧ t.filters.arm.level = false ∧
          t.reasons = s.reasons ||| Reason.slotUncertain.bit |||
            (if s.senses.arm = .falling then Reason.lineArm.bit else 0) ∧
          t = { s with
            slots := t.slots, filters := { s.filters with arm := { s.filters.arm with level := false } }
            reasons := t.reasons, attn := t.attn, haltReq := t.haltReq }) ∧
      (s.issuedSlot = none →
        ∃ t, exec .armReadyFalling s = .next t ∧
          t.reasons = s.reasons ||| (if s.senses.arm = .falling then Reason.lineArm.bit else 0) ∧
          t = { s with
            filters := { s.filters with arm := { s.filters.arm with level := false } }
            reasons := t.reasons, attn := t.attn, haltReq := t.haltReq })) ∧
    ∀ s : State, s.hold = .running → s.filters.ground.edgeDue s.siteTime = true → s.filters.ground.raw = true →
      ∃ t, exec .groundShiftRising s = .next t ∧
        t.station = (if s.station.state = .parked ∨ s.station.state = .draining
          then { s.station with datumValid := false } else s.station) ∧
        t.reasons = s.reasons |||
          (if s.station.state = .parked ∨ s.station.state = .draining then Reason.datumLost.bit else 0) |||
          (if s.senses.ground = .rising then Reason.lineGround.bit else 0) ∧
        t = { s with
          filters := { s.filters with ground := { s.filters.ground with level := true } }
          station := t.station, reasons := t.reasons, attn := t.attn, haltReq := t.haltReq }

/-- R29, R179, R188: RESET_N falls, and the part works on; a low of 1 ms to under 20 ms is a link reset at the rising edge:
the ports are as after a full reset, nothing waits or is served, an open load is abandoned silently, and every other record is
kept. A low under 1 ms has no effect. -/
def Obligations.LinkResetKeepsTheRecords : Prop :=
  (∀ s : State, exec .resetNFalling s = .next { s with resetN := false }) ∧
    ∀ (low : Nat) (s : State), s.hold = .running → s.resetN = false →
      (1000 ≤ low → low < 20000 →
        ∃ t, exec (.linkReset low) s = .next t ∧
          (∀ port, t.ports.get port = { receiver := .hunt, outstanding := false, lastTag := none, transmit := [] }) ∧
          (∀ e, t.course e = if s.load.any (fun l => l.entry = e) then none else s.course e) ∧
          t = { s with
            ports := t.ports, inbound := [], serving := none, load := none, courses := t.courses, resetN := true }) ∧
      (low < 1000 → exec (.linkReset low) s = .next { s with resetN := true })

/-- R180, R181: a low of RESET_N that reaches 20 ms, power applied and a supply that falls each put every record at its
full-reset value and hold the part; the release, by RESET_N's rise or by the supply monitor, starts site time from 0, takes the
filtered levels from the raw inputs and samples the strap. The pins keep their levels. The full-reset values are spelled out in
`State.AtFullResetValues`, and State.reset holds them. -/
def Obligations.FullResetAndRelease : Prop :=
  State.reset.AtFullResetValues ∧
  (∀ (i : Instr) (hold : Hold) (s : State),
      ((i = .fullReset ∧ s.resetN = false ∧ s.hold = .running ∧ hold = .byResetN) ∨
        ((i = .powerUp ∨ i = .supplyFall) ∧ hold = .bySupply)) →
      ∃ t, exec i s = .next t ∧ t.AtFullResetValues ∧ t.hold = hold ∧ t.resetN = s.resetN ∧ t.pending = s.pending ∧
        (∀ line, (t.filters.get line).raw = (s.filters.get line).raw) ∧
        t = { State.reset with
          filters := t.filters, sawFitted := s.sawFitted, resetN := t.resetN, hold := t.hold, pending := t.pending }) ∧
    ∀ (i : Instr) (pin : Bool) (s : State),
      ((i = .fullResetRelease pin ∧ s.resetN = false ∧ s.hold = .byResetN) ∨
        (i = .powerUpRelease pin ∧ s.resetN = true ∧ s.hold = .bySupply)) →
      ∃ t, exec i s = .next t ∧ t.sawFitted = pin ∧ t.siteTime = 0 ∧
        (∀ line, (t.filters.get line).raw = (s.filters.get line).raw ∧
          (t.filters.get line).level = (s.filters.get line).raw) ∧
        t = { s with
          hold := .running, siteTime := 0, sawFitted := pin, filters := t.filters, resetN := true }

/-! ### Invariants that every step keeps -/

/-- Every table of records keeps its one form: identifiers strictly rising and within the table's capacity. R7, R9, R10, R11:
so do the openings (`State.ChainsLinked`): every feature in use stands in exactly one chain, that of its own OPEN wall, each
chain stands by ascending x_a and then z_sill and ends with 0, no two openings of a wall overlap, and the spans and the lintel
of each stay in their ranges. -/
def Obligations.StepKeepsTheTablesCanonical : Prop :=
  (∀ s t : State, s.tablesCanonical → step s = .next t → t.tablesCanonical) ∧
    ∀ s t : State, s.tablesCanonical → s.ChainsLinked → step s = .next t → t.ChainsLinked

/-- R88, R89, R111: the feed queue never holds more than 6 entries, each entry carries the current feed generation, and only
the head may be AT_GRIPPER; at most one slot of the part is ISSUED or UNCERTAIN; and the queue and the slots are in step: no
two entries name one slot, each entry agrees with its slot, each slot that is FED, ISSUED or UNCERTAIN has an entry, and the
slot in the arm's hands is that of a head AT_GRIPPER. The last holds with the links between courses, runs and slots (R21, R38
to R41, R46, R54: `State.RecordsLinked`), which every step keeps too. -/
def Obligations.StepKeepsTheBeltInForm : Prop :=
  (∀ s t : State, s.queueInForm → step s = .next t → t.queueInForm) ∧
    (∀ s t : State, s.tablesCanonical → s.oneInHand → step s = .next t → t.oneInHand) ∧
    ∀ s t : State, s.tablesCanonical → s.loadNamesLoading → s.RecordsLinked → s.queueInStep → step s = .next t →
      t.RecordsLinked ∧ t.queueInStep

/-- R23: the load record is present exactly while one course entry is LOADING, and names that entry. -/
def Obligations.StepKeepsTheLoadRecord : Prop :=
  ∀ s t : State, s.tablesCanonical → s.loadNamesLoading → step s = .next t → t.loadNamesLoading

/-- R21: the live courses of a wall carry consecutive numbers, from the wall's base course up to one below its next course
number, and a wall holds at most one held course of any number. -/
def Obligations.StepKeepsCourseNumbersInOrder : Prop :=
  ∀ s t : State, s.tablesCanonical → s.loadNamesLoading → s.numbersInOrder → step s = .next t → t.numbersInOrder

/-- R185, R186, R187: no port ever has more than one request awaiting its response, a transmit queue never holds more than 4
responses and always has room for the response to the outstanding request, a request waits only while another is served, and
none is passed over more than 4 times. -/
def Obligations.StepKeepsThePortsInForm : Prop :=
  ∀ s t : State, s.portsInForm → step s = .next t → t.portsInForm

end Statements
end

