-- ==== Sys2Proof/Laws/State.lean ====
section
/-! SUPPORT. What each named update of the state does to each field, one lemma per field per update, so that no proof
unfolds a record update. -/

namespace Sys2Proof.Machine

/-! ### `deriveOutputs` -/

@[simp] theorem State.deriveOutputs_walls (s : State) : s.deriveOutputs.walls = s.walls := rfl
@[simp] theorem State.deriveOutputs_features (s : State) : s.deriveOutputs.features = s.features := rfl
@[simp] theorem State.deriveOutputs_kinds (s : State) : s.deriveOutputs.kinds = s.kinds := rfl
@[simp] theorem State.deriveOutputs_profiles (s : State) : s.deriveOutputs.profiles = s.profiles := rfl
@[simp] theorem State.deriveOutputs_params (s : State) : s.deriveOutputs.params = s.params := rfl
@[simp] theorem State.deriveOutputs_courses (s : State) : s.deriveOutputs.courses = s.courses := rfl
@[simp] theorem State.deriveOutputs_load (s : State) : s.deriveOutputs.load = s.load := rfl
@[simp] theorem State.deriveOutputs_runs (s : State) : s.deriveOutputs.runs = s.runs := rfl
@[simp] theorem State.deriveOutputs_slots (s : State) : s.deriveOutputs.slots = s.slots := rfl
@[simp] theorem State.deriveOutputs_queue (s : State) : s.deriveOutputs.queue = s.queue := rfl
@[simp] theorem State.deriveOutputs_generation (s : State) : s.deriveOutputs.generation = s.generation := rfl
@[simp] theorem State.deriveOutputs_station (s : State) : s.deriveOutputs.station = s.station := rfl
@[simp] theorem State.deriveOutputs_siteTime (s : State) : s.deriveOutputs.siteTime = s.siteTime := rfl
@[simp] theorem State.deriveOutputs_filters (s : State) : s.deriveOutputs.filters = s.filters := rfl
@[simp] theorem State.deriveOutputs_senses (s : State) : s.deriveOutputs.senses = s.senses := rfl
@[simp] theorem State.deriveOutputs_sawFitted (s : State) : s.deriveOutputs.sawFitted = s.sawFitted := rfl
@[simp] theorem State.deriveOutputs_resetN (s : State) : s.deriveOutputs.resetN = s.resetN := rfl
@[simp] theorem State.deriveOutputs_hold (s : State) : s.deriveOutputs.hold = s.hold := rfl
@[simp] theorem State.deriveOutputs_flags (s : State) : s.deriveOutputs.flags = s.flags := rfl
@[simp] theorem State.deriveOutputs_processCapture (s : State) : s.deriveOutputs.processCapture = s.processCapture := rfl
@[simp] theorem State.deriveOutputs_geometryCapture (s : State) : s.deriveOutputs.geometryCapture = s.geometryCapture := rfl
@[simp] theorem State.deriveOutputs_reasons (s : State) : s.deriveOutputs.reasons = s.reasons := rfl
@[simp] theorem State.deriveOutputs_enables (s : State) : s.deriveOutputs.enables = s.enables := rfl
@[simp] theorem State.deriveOutputs_attn (s : State) : s.deriveOutputs.attn = ((s.reasons &&& s.enables) != 0) := rfl
@[simp] theorem State.deriveOutputs_haltReq (s : State) : s.deriveOutputs.haltReq = s.flags.severe := rfl
@[simp] theorem State.deriveOutputs_ports (s : State) : s.deriveOutputs.ports = s.ports := rfl
@[simp] theorem State.deriveOutputs_inbound (s : State) : s.deriveOutputs.inbound = s.inbound := rfl
@[simp] theorem State.deriveOutputs_serving (s : State) : s.deriveOutputs.serving = s.serving := rfl
@[simp] theorem State.deriveOutputs_pending (s : State) : s.deriveOutputs.pending = s.pending := rfl

/-! ### `raise` -/

@[simp] theorem State.raise_walls (s : State) (r : Reason) : (s.raise r).walls = s.walls := rfl
@[simp] theorem State.raise_features (s : State) (r : Reason) : (s.raise r).features = s.features := rfl
@[simp] theorem State.raise_kinds (s : State) (r : Reason) : (s.raise r).kinds = s.kinds := rfl
@[simp] theorem State.raise_profiles (s : State) (r : Reason) : (s.raise r).profiles = s.profiles := rfl
@[simp] theorem State.raise_params (s : State) (r : Reason) : (s.raise r).params = s.params := rfl
@[simp] theorem State.raise_courses (s : State) (r : Reason) : (s.raise r).courses = s.courses := rfl
@[simp] theorem State.raise_load (s : State) (r : Reason) : (s.raise r).load = s.load := rfl
@[simp] theorem State.raise_runs (s : State) (r : Reason) : (s.raise r).runs = s.runs := rfl
@[simp] theorem State.raise_slots (s : State) (r : Reason) : (s.raise r).slots = s.slots := rfl
@[simp] theorem State.raise_queue (s : State) (r : Reason) : (s.raise r).queue = s.queue := rfl
@[simp] theorem State.raise_generation (s : State) (r : Reason) : (s.raise r).generation = s.generation := rfl
@[simp] theorem State.raise_station (s : State) (r : Reason) : (s.raise r).station = s.station := rfl
@[simp] theorem State.raise_siteTime (s : State) (r : Reason) : (s.raise r).siteTime = s.siteTime := rfl
@[simp] theorem State.raise_filters (s : State) (r : Reason) : (s.raise r).filters = s.filters := rfl
@[simp] theorem State.raise_senses (s : State) (r : Reason) : (s.raise r).senses = s.senses := rfl
@[simp] theorem State.raise_sawFitted (s : State) (r : Reason) : (s.raise r).sawFitted = s.sawFitted := rfl
@[simp] theorem State.raise_resetN (s : State) (r : Reason) : (s.raise r).resetN = s.resetN := rfl
@[simp] theorem State.raise_hold (s : State) (r : Reason) : (s.raise r).hold = s.hold := rfl
@[simp] theorem State.raise_flags (s : State) (r : Reason) : (s.raise r).flags = s.flags := rfl
@[simp] theorem State.raise_processCapture (s : State) (r : Reason) : (s.raise r).processCapture = s.processCapture := rfl
@[simp] theorem State.raise_geometryCapture (s : State) (r : Reason) : (s.raise r).geometryCapture = s.geometryCapture := rfl
@[simp] theorem State.raise_reasons (s : State) (r : Reason) : (s.raise r).reasons = (s.reasons ||| r.bit) := rfl
@[simp] theorem State.raise_enables (s : State) (r : Reason) : (s.raise r).enables = s.enables := rfl
@[simp] theorem State.raise_attn (s : State) (r : Reason) : (s.raise r).attn = ((s.reasons ||| r.bit) &&& s.enables != 0) := rfl
@[simp] theorem State.raise_haltReq (s : State) (r : Reason) : (s.raise r).haltReq = s.flags.severe := rfl
@[simp] theorem State.raise_ports (s : State) (r : Reason) : (s.raise r).ports = s.ports := rfl
@[simp] theorem State.raise_inbound (s : State) (r : Reason) : (s.raise r).inbound = s.inbound := rfl
@[simp] theorem State.raise_serving (s : State) (r : Reason) : (s.raise r).serving = s.serving := rfl
@[simp] theorem State.raise_pending (s : State) (r : Reason) : (s.raise r).pending = s.pending := rfl

/-! ### `putFlag` -/

@[simp] theorem State.putFlag_walls (s : State) (g : FaultFlag) (b : Bool) : (s.putFlag g b).walls = s.walls := rfl
@[simp] theorem State.putFlag_features (s : State) (g : FaultFlag) (b : Bool) : (s.putFlag g b).features = s.features := rfl
@[simp] theorem State.putFlag_kinds (s : State) (g : FaultFlag) (b : Bool) : (s.putFlag g b).kinds = s.kinds := rfl
@[simp] theorem State.putFlag_profiles (s : State) (g : FaultFlag) (b : Bool) : (s.putFlag g b).profiles = s.profiles := rfl
@[simp] theorem State.putFlag_params (s : State) (g : FaultFlag) (b : Bool) : (s.putFlag g b).params = s.params := rfl
@[simp] theorem State.putFlag_courses (s : State) (g : FaultFlag) (b : Bool) : (s.putFlag g b).courses = s.courses := rfl
@[simp] theorem State.putFlag_load (s : State) (g : FaultFlag) (b : Bool) : (s.putFlag g b).load = s.load := rfl
@[simp] theorem State.putFlag_runs (s : State) (g : FaultFlag) (b : Bool) : (s.putFlag g b).runs = s.runs := rfl
@[simp] theorem State.putFlag_slots (s : State) (g : FaultFlag) (b : Bool) : (s.putFlag g b).slots = s.slots := rfl
@[simp] theorem State.putFlag_queue (s : State) (g : FaultFlag) (b : Bool) : (s.putFlag g b).queue = s.queue := rfl
@[simp] theorem State.putFlag_generation (s : State) (g : FaultFlag) (b : Bool) : (s.putFlag g b).generation = s.generation := rfl
@[simp] theorem State.putFlag_station (s : State) (g : FaultFlag) (b : Bool) : (s.putFlag g b).station = s.station := rfl
@[simp] theorem State.putFlag_siteTime (s : State) (g : FaultFlag) (b : Bool) : (s.putFlag g b).siteTime = s.siteTime := rfl
@[simp] theorem State.putFlag_filters (s : State) (g : FaultFlag) (b : Bool) : (s.putFlag g b).filters = s.filters := rfl
@[simp] theorem State.putFlag_senses (s : State) (g : FaultFlag) (b : Bool) : (s.putFlag g b).senses = s.senses := rfl
@[simp] theorem State.putFlag_sawFitted (s : State) (g : FaultFlag) (b : Bool) : (s.putFlag g b).sawFitted = s.sawFitted := rfl
@[simp] theorem State.putFlag_resetN (s : State) (g : FaultFlag) (b : Bool) : (s.putFlag g b).resetN = s.resetN := rfl
@[simp] theorem State.putFlag_hold (s : State) (g : FaultFlag) (b : Bool) : (s.putFlag g b).hold = s.hold := rfl
@[simp] theorem State.putFlag_flags (s : State) (g : FaultFlag) (b : Bool) : (s.putFlag g b).flags = (s.flags.put g b) := rfl
@[simp] theorem State.putFlag_processCapture (s : State) (g : FaultFlag) (b : Bool) : (s.putFlag g b).processCapture = s.processCapture := rfl
@[simp] theorem State.putFlag_geometryCapture (s : State) (g : FaultFlag) (b : Bool) : (s.putFlag g b).geometryCapture = s.geometryCapture := rfl
@[simp] theorem State.putFlag_reasons (s : State) (g : FaultFlag) (b : Bool) : (s.putFlag g b).reasons = s.reasons := rfl
@[simp] theorem State.putFlag_enables (s : State) (g : FaultFlag) (b : Bool) : (s.putFlag g b).enables = s.enables := rfl
@[simp] theorem State.putFlag_attn (s : State) (g : FaultFlag) (b : Bool) : (s.putFlag g b).attn = ((s.reasons &&& s.enables) != 0) := rfl
@[simp] theorem State.putFlag_haltReq (s : State) (g : FaultFlag) (b : Bool) : (s.putFlag g b).haltReq = (s.flags.put g b).severe := rfl
@[simp] theorem State.putFlag_ports (s : State) (g : FaultFlag) (b : Bool) : (s.putFlag g b).ports = s.ports := rfl
@[simp] theorem State.putFlag_inbound (s : State) (g : FaultFlag) (b : Bool) : (s.putFlag g b).inbound = s.inbound := rfl
@[simp] theorem State.putFlag_serving (s : State) (g : FaultFlag) (b : Bool) : (s.putFlag g b).serving = s.serving := rfl
@[simp] theorem State.putFlag_pending (s : State) (g : FaultFlag) (b : Bool) : (s.putFlag g b).pending = s.pending := rfl

/-! ### `updateSlot` -/

@[simp] theorem State.updateSlot_walls (s : State) (k : Nat) (f : Slot → Slot) : (s.updateSlot k f).walls = s.walls := rfl
@[simp] theorem State.updateSlot_features (s : State) (k : Nat) (f : Slot → Slot) : (s.updateSlot k f).features = s.features := rfl
@[simp] theorem State.updateSlot_kinds (s : State) (k : Nat) (f : Slot → Slot) : (s.updateSlot k f).kinds = s.kinds := rfl
@[simp] theorem State.updateSlot_profiles (s : State) (k : Nat) (f : Slot → Slot) : (s.updateSlot k f).profiles = s.profiles := rfl
@[simp] theorem State.updateSlot_params (s : State) (k : Nat) (f : Slot → Slot) : (s.updateSlot k f).params = s.params := rfl
@[simp] theorem State.updateSlot_courses (s : State) (k : Nat) (f : Slot → Slot) : (s.updateSlot k f).courses = s.courses := rfl
@[simp] theorem State.updateSlot_load (s : State) (k : Nat) (f : Slot → Slot) : (s.updateSlot k f).load = s.load := rfl
@[simp] theorem State.updateSlot_runs (s : State) (k : Nat) (f : Slot → Slot) : (s.updateSlot k f).runs = s.runs := rfl
@[simp] theorem State.updateSlot_slots (s : State) (k : Nat) (f : Slot → Slot) : (s.updateSlot k f).slots = Table.update s.slots k f := rfl
@[simp] theorem State.updateSlot_queue (s : State) (k : Nat) (f : Slot → Slot) : (s.updateSlot k f).queue = s.queue := rfl
@[simp] theorem State.updateSlot_generation (s : State) (k : Nat) (f : Slot → Slot) : (s.updateSlot k f).generation = s.generation := rfl
@[simp] theorem State.updateSlot_station (s : State) (k : Nat) (f : Slot → Slot) : (s.updateSlot k f).station = s.station := rfl
@[simp] theorem State.updateSlot_siteTime (s : State) (k : Nat) (f : Slot → Slot) : (s.updateSlot k f).siteTime = s.siteTime := rfl
@[simp] theorem State.updateSlot_filters (s : State) (k : Nat) (f : Slot → Slot) : (s.updateSlot k f).filters = s.filters := rfl
@[simp] theorem State.updateSlot_senses (s : State) (k : Nat) (f : Slot → Slot) : (s.updateSlot k f).senses = s.senses := rfl
@[simp] theorem State.updateSlot_sawFitted (s : State) (k : Nat) (f : Slot → Slot) : (s.updateSlot k f).sawFitted = s.sawFitted := rfl
@[simp] theorem State.updateSlot_resetN (s : State) (k : Nat) (f : Slot → Slot) : (s.updateSlot k f).resetN = s.resetN := rfl
@[simp] theorem State.updateSlot_hold (s : State) (k : Nat) (f : Slot → Slot) : (s.updateSlot k f).hold = s.hold := rfl
@[simp] theorem State.updateSlot_flags (s : State) (k : Nat) (f : Slot → Slot) : (s.updateSlot k f).flags = s.flags := rfl
@[simp] theorem State.updateSlot_processCapture (s : State) (k : Nat) (f : Slot → Slot) : (s.updateSlot k f).processCapture = s.processCapture := rfl
@[simp] theorem State.updateSlot_geometryCapture (s : State) (k : Nat) (f : Slot → Slot) : (s.updateSlot k f).geometryCapture = s.geometryCapture := rfl
@[simp] theorem State.updateSlot_reasons (s : State) (k : Nat) (f : Slot → Slot) : (s.updateSlot k f).reasons = s.reasons := rfl
@[simp] theorem State.updateSlot_enables (s : State) (k : Nat) (f : Slot → Slot) : (s.updateSlot k f).enables = s.enables := rfl
@[simp] theorem State.updateSlot_attn (s : State) (k : Nat) (f : Slot → Slot) : (s.updateSlot k f).attn = s.attn := rfl
@[simp] theorem State.updateSlot_haltReq (s : State) (k : Nat) (f : Slot → Slot) : (s.updateSlot k f).haltReq = s.haltReq := rfl
@[simp] theorem State.updateSlot_ports (s : State) (k : Nat) (f : Slot → Slot) : (s.updateSlot k f).ports = s.ports := rfl
@[simp] theorem State.updateSlot_inbound (s : State) (k : Nat) (f : Slot → Slot) : (s.updateSlot k f).inbound = s.inbound := rfl
@[simp] theorem State.updateSlot_serving (s : State) (k : Nat) (f : Slot → Slot) : (s.updateSlot k f).serving = s.serving := rfl
@[simp] theorem State.updateSlot_pending (s : State) (k : Nat) (f : Slot → Slot) : (s.updateSlot k f).pending = s.pending := rfl

/-! ### `updateRun` -/

@[simp] theorem State.updateRun_walls (s : State) (k : Nat) (f : Run → Run) : (s.updateRun k f).walls = s.walls := rfl
@[simp] theorem State.updateRun_features (s : State) (k : Nat) (f : Run → Run) : (s.updateRun k f).features = s.features := rfl
@[simp] theorem State.updateRun_kinds (s : State) (k : Nat) (f : Run → Run) : (s.updateRun k f).kinds = s.kinds := rfl
@[simp] theorem State.updateRun_profiles (s : State) (k : Nat) (f : Run → Run) : (s.updateRun k f).profiles = s.profiles := rfl
@[simp] theorem State.updateRun_params (s : State) (k : Nat) (f : Run → Run) : (s.updateRun k f).params = s.params := rfl
@[simp] theorem State.updateRun_courses (s : State) (k : Nat) (f : Run → Run) : (s.updateRun k f).courses = s.courses := rfl
@[simp] theorem State.updateRun_load (s : State) (k : Nat) (f : Run → Run) : (s.updateRun k f).load = s.load := rfl
@[simp] theorem State.updateRun_runs (s : State) (k : Nat) (f : Run → Run) : (s.updateRun k f).runs = Table.update s.runs k f := rfl
@[simp] theorem State.updateRun_slots (s : State) (k : Nat) (f : Run → Run) : (s.updateRun k f).slots = s.slots := rfl
@[simp] theorem State.updateRun_queue (s : State) (k : Nat) (f : Run → Run) : (s.updateRun k f).queue = s.queue := rfl
@[simp] theorem State.updateRun_generation (s : State) (k : Nat) (f : Run → Run) : (s.updateRun k f).generation = s.generation := rfl
@[simp] theorem State.updateRun_station (s : State) (k : Nat) (f : Run → Run) : (s.updateRun k f).station = s.station := rfl
@[simp] theorem State.updateRun_siteTime (s : State) (k : Nat) (f : Run → Run) : (s.updateRun k f).siteTime = s.siteTime := rfl
@[simp] theorem State.updateRun_filters (s : State) (k : Nat) (f : Run → Run) : (s.updateRun k f).filters = s.filters := rfl
@[simp] theorem State.updateRun_senses (s : State) (k : Nat) (f : Run → Run) : (s.updateRun k f).senses = s.senses := rfl
@[simp] theorem State.updateRun_sawFitted (s : State) (k : Nat) (f : Run → Run) : (s.updateRun k f).sawFitted = s.sawFitted := rfl
@[simp] theorem State.updateRun_resetN (s : State) (k : Nat) (f : Run → Run) : (s.updateRun k f).resetN = s.resetN := rfl
@[simp] theorem State.updateRun_hold (s : State) (k : Nat) (f : Run → Run) : (s.updateRun k f).hold = s.hold := rfl
@[simp] theorem State.updateRun_flags (s : State) (k : Nat) (f : Run → Run) : (s.updateRun k f).flags = s.flags := rfl
@[simp] theorem State.updateRun_processCapture (s : State) (k : Nat) (f : Run → Run) : (s.updateRun k f).processCapture = s.processCapture := rfl
@[simp] theorem State.updateRun_geometryCapture (s : State) (k : Nat) (f : Run → Run) : (s.updateRun k f).geometryCapture = s.geometryCapture := rfl
@[simp] theorem State.updateRun_reasons (s : State) (k : Nat) (f : Run → Run) : (s.updateRun k f).reasons = s.reasons := rfl
@[simp] theorem State.updateRun_enables (s : State) (k : Nat) (f : Run → Run) : (s.updateRun k f).enables = s.enables := rfl
@[simp] theorem State.updateRun_attn (s : State) (k : Nat) (f : Run → Run) : (s.updateRun k f).attn = s.attn := rfl
@[simp] theorem State.updateRun_haltReq (s : State) (k : Nat) (f : Run → Run) : (s.updateRun k f).haltReq = s.haltReq := rfl
@[simp] theorem State.updateRun_ports (s : State) (k : Nat) (f : Run → Run) : (s.updateRun k f).ports = s.ports := rfl
@[simp] theorem State.updateRun_inbound (s : State) (k : Nat) (f : Run → Run) : (s.updateRun k f).inbound = s.inbound := rfl
@[simp] theorem State.updateRun_serving (s : State) (k : Nat) (f : Run → Run) : (s.updateRun k f).serving = s.serving := rfl
@[simp] theorem State.updateRun_pending (s : State) (k : Nat) (f : Run → Run) : (s.updateRun k f).pending = s.pending := rfl

/-! ### `updateCourse` -/

@[simp] theorem State.updateCourse_walls (s : State) (k : Nat) (f : Course → Course) : (s.updateCourse k f).walls = s.walls := rfl
@[simp] theorem State.updateCourse_features (s : State) (k : Nat) (f : Course → Course) : (s.updateCourse k f).features = s.features := rfl
@[simp] theorem State.updateCourse_kinds (s : State) (k : Nat) (f : Course → Course) : (s.updateCourse k f).kinds = s.kinds := rfl
@[simp] theorem State.updateCourse_profiles (s : State) (k : Nat) (f : Course → Course) : (s.updateCourse k f).profiles = s.profiles := rfl
@[simp] theorem State.updateCourse_params (s : State) (k : Nat) (f : Course → Course) : (s.updateCourse k f).params = s.params := rfl
@[simp] theorem State.updateCourse_courses (s : State) (k : Nat) (f : Course → Course) : (s.updateCourse k f).courses = Table.update s.courses k f := rfl
@[simp] theorem State.updateCourse_load (s : State) (k : Nat) (f : Course → Course) : (s.updateCourse k f).load = s.load := rfl
@[simp] theorem State.updateCourse_runs (s : State) (k : Nat) (f : Course → Course) : (s.updateCourse k f).runs = s.runs := rfl
@[simp] theorem State.updateCourse_slots (s : State) (k : Nat) (f : Course → Course) : (s.updateCourse k f).slots = s.slots := rfl
@[simp] theorem State.updateCourse_queue (s : State) (k : Nat) (f : Course → Course) : (s.updateCourse k f).queue = s.queue := rfl
@[simp] theorem State.updateCourse_generation (s : State) (k : Nat) (f : Course → Course) : (s.updateCourse k f).generation = s.generation := rfl
@[simp] theorem State.updateCourse_station (s : State) (k : Nat) (f : Course → Course) : (s.updateCourse k f).station = s.station := rfl
@[simp] theorem State.updateCourse_siteTime (s : State) (k : Nat) (f : Course → Course) : (s.updateCourse k f).siteTime = s.siteTime := rfl
@[simp] theorem State.updateCourse_filters (s : State) (k : Nat) (f : Course → Course) : (s.updateCourse k f).filters = s.filters := rfl
@[simp] theorem State.updateCourse_senses (s : State) (k : Nat) (f : Course → Course) : (s.updateCourse k f).senses = s.senses := rfl
@[simp] theorem State.updateCourse_sawFitted (s : State) (k : Nat) (f : Course → Course) : (s.updateCourse k f).sawFitted = s.sawFitted := rfl
@[simp] theorem State.updateCourse_resetN (s : State) (k : Nat) (f : Course → Course) : (s.updateCourse k f).resetN = s.resetN := rfl
@[simp] theorem State.updateCourse_hold (s : State) (k : Nat) (f : Course → Course) : (s.updateCourse k f).hold = s.hold := rfl
@[simp] theorem State.updateCourse_flags (s : State) (k : Nat) (f : Course → Course) : (s.updateCourse k f).flags = s.flags := rfl
@[simp] theorem State.updateCourse_processCapture (s : State) (k : Nat) (f : Course → Course) : (s.updateCourse k f).processCapture = s.processCapture := rfl
@[simp] theorem State.updateCourse_geometryCapture (s : State) (k : Nat) (f : Course → Course) : (s.updateCourse k f).geometryCapture = s.geometryCapture := rfl
@[simp] theorem State.updateCourse_reasons (s : State) (k : Nat) (f : Course → Course) : (s.updateCourse k f).reasons = s.reasons := rfl
@[simp] theorem State.updateCourse_enables (s : State) (k : Nat) (f : Course → Course) : (s.updateCourse k f).enables = s.enables := rfl
@[simp] theorem State.updateCourse_attn (s : State) (k : Nat) (f : Course → Course) : (s.updateCourse k f).attn = s.attn := rfl
@[simp] theorem State.updateCourse_haltReq (s : State) (k : Nat) (f : Course → Course) : (s.updateCourse k f).haltReq = s.haltReq := rfl
@[simp] theorem State.updateCourse_ports (s : State) (k : Nat) (f : Course → Course) : (s.updateCourse k f).ports = s.ports := rfl
@[simp] theorem State.updateCourse_inbound (s : State) (k : Nat) (f : Course → Course) : (s.updateCourse k f).inbound = s.inbound := rfl
@[simp] theorem State.updateCourse_serving (s : State) (k : Nat) (f : Course → Course) : (s.updateCourse k f).serving = s.serving := rfl
@[simp] theorem State.updateCourse_pending (s : State) (k : Nat) (f : Course → Course) : (s.updateCourse k f).pending = s.pending := rfl

/-! ### `updateWall` -/

@[simp] theorem State.updateWall_walls (s : State) (k : Nat) (f : Wall → Wall) : (s.updateWall k f).walls = Table.update s.walls k f := rfl
@[simp] theorem State.updateWall_features (s : State) (k : Nat) (f : Wall → Wall) : (s.updateWall k f).features = s.features := rfl
@[simp] theorem State.updateWall_kinds (s : State) (k : Nat) (f : Wall → Wall) : (s.updateWall k f).kinds = s.kinds := rfl
@[simp] theorem State.updateWall_profiles (s : State) (k : Nat) (f : Wall → Wall) : (s.updateWall k f).profiles = s.profiles := rfl
@[simp] theorem State.updateWall_params (s : State) (k : Nat) (f : Wall → Wall) : (s.updateWall k f).params = s.params := rfl
@[simp] theorem State.updateWall_courses (s : State) (k : Nat) (f : Wall → Wall) : (s.updateWall k f).courses = s.courses := rfl
@[simp] theorem State.updateWall_load (s : State) (k : Nat) (f : Wall → Wall) : (s.updateWall k f).load = s.load := rfl
@[simp] theorem State.updateWall_runs (s : State) (k : Nat) (f : Wall → Wall) : (s.updateWall k f).runs = s.runs := rfl
@[simp] theorem State.updateWall_slots (s : State) (k : Nat) (f : Wall → Wall) : (s.updateWall k f).slots = s.slots := rfl
@[simp] theorem State.updateWall_queue (s : State) (k : Nat) (f : Wall → Wall) : (s.updateWall k f).queue = s.queue := rfl
@[simp] theorem State.updateWall_generation (s : State) (k : Nat) (f : Wall → Wall) : (s.updateWall k f).generation = s.generation := rfl
@[simp] theorem State.updateWall_station (s : State) (k : Nat) (f : Wall → Wall) : (s.updateWall k f).station = s.station := rfl
@[simp] theorem State.updateWall_siteTime (s : State) (k : Nat) (f : Wall → Wall) : (s.updateWall k f).siteTime = s.siteTime := rfl
@[simp] theorem State.updateWall_filters (s : State) (k : Nat) (f : Wall → Wall) : (s.updateWall k f).filters = s.filters := rfl
@[simp] theorem State.updateWall_senses (s : State) (k : Nat) (f : Wall → Wall) : (s.updateWall k f).senses = s.senses := rfl
@[simp] theorem State.updateWall_sawFitted (s : State) (k : Nat) (f : Wall → Wall) : (s.updateWall k f).sawFitted = s.sawFitted := rfl
@[simp] theorem State.updateWall_resetN (s : State) (k : Nat) (f : Wall → Wall) : (s.updateWall k f).resetN = s.resetN := rfl
@[simp] theorem State.updateWall_hold (s : State) (k : Nat) (f : Wall → Wall) : (s.updateWall k f).hold = s.hold := rfl
@[simp] theorem State.updateWall_flags (s : State) (k : Nat) (f : Wall → Wall) : (s.updateWall k f).flags = s.flags := rfl
@[simp] theorem State.updateWall_processCapture (s : State) (k : Nat) (f : Wall → Wall) : (s.updateWall k f).processCapture = s.processCapture := rfl
@[simp] theorem State.updateWall_geometryCapture (s : State) (k : Nat) (f : Wall → Wall) : (s.updateWall k f).geometryCapture = s.geometryCapture := rfl
@[simp] theorem State.updateWall_reasons (s : State) (k : Nat) (f : Wall → Wall) : (s.updateWall k f).reasons = s.reasons := rfl
@[simp] theorem State.updateWall_enables (s : State) (k : Nat) (f : Wall → Wall) : (s.updateWall k f).enables = s.enables := rfl
@[simp] theorem State.updateWall_attn (s : State) (k : Nat) (f : Wall → Wall) : (s.updateWall k f).attn = s.attn := rfl
@[simp] theorem State.updateWall_haltReq (s : State) (k : Nat) (f : Wall → Wall) : (s.updateWall k f).haltReq = s.haltReq := rfl
@[simp] theorem State.updateWall_ports (s : State) (k : Nat) (f : Wall → Wall) : (s.updateWall k f).ports = s.ports := rfl
@[simp] theorem State.updateWall_inbound (s : State) (k : Nat) (f : Wall → Wall) : (s.updateWall k f).inbound = s.inbound := rfl
@[simp] theorem State.updateWall_serving (s : State) (k : Nat) (f : Wall → Wall) : (s.updateWall k f).serving = s.serving := rfl
@[simp] theorem State.updateWall_pending (s : State) (k : Nat) (f : Wall → Wall) : (s.updateWall k f).pending = s.pending := rfl

/-! ### `updateFeature` -/

@[simp] theorem State.updateFeature_walls (s : State) (k : Nat) (f : Feature → Feature) : (s.updateFeature k f).walls = s.walls := rfl
@[simp] theorem State.updateFeature_features (s : State) (k : Nat) (f : Feature → Feature) : (s.updateFeature k f).features = Table.update s.features k f := rfl
@[simp] theorem State.updateFeature_kinds (s : State) (k : Nat) (f : Feature → Feature) : (s.updateFeature k f).kinds = s.kinds := rfl
@[simp] theorem State.updateFeature_profiles (s : State) (k : Nat) (f : Feature → Feature) : (s.updateFeature k f).profiles = s.profiles := rfl
@[simp] theorem State.updateFeature_params (s : State) (k : Nat) (f : Feature → Feature) : (s.updateFeature k f).params = s.params := rfl
@[simp] theorem State.updateFeature_courses (s : State) (k : Nat) (f : Feature → Feature) : (s.updateFeature k f).courses = s.courses := rfl
@[simp] theorem State.updateFeature_load (s : State) (k : Nat) (f : Feature → Feature) : (s.updateFeature k f).load = s.load := rfl
@[simp] theorem State.updateFeature_runs (s : State) (k : Nat) (f : Feature → Feature) : (s.updateFeature k f).runs = s.runs := rfl
@[simp] theorem State.updateFeature_slots (s : State) (k : Nat) (f : Feature → Feature) : (s.updateFeature k f).slots = s.slots := rfl
@[simp] theorem State.updateFeature_queue (s : State) (k : Nat) (f : Feature → Feature) : (s.updateFeature k f).queue = s.queue := rfl
@[simp] theorem State.updateFeature_generation (s : State) (k : Nat) (f : Feature → Feature) : (s.updateFeature k f).generation = s.generation := rfl
@[simp] theorem State.updateFeature_station (s : State) (k : Nat) (f : Feature → Feature) : (s.updateFeature k f).station = s.station := rfl
@[simp] theorem State.updateFeature_siteTime (s : State) (k : Nat) (f : Feature → Feature) : (s.updateFeature k f).siteTime = s.siteTime := rfl
@[simp] theorem State.updateFeature_filters (s : State) (k : Nat) (f : Feature → Feature) : (s.updateFeature k f).filters = s.filters := rfl
@[simp] theorem State.updateFeature_senses (s : State) (k : Nat) (f : Feature → Feature) : (s.updateFeature k f).senses = s.senses := rfl
@[simp] theorem State.updateFeature_sawFitted (s : State) (k : Nat) (f : Feature → Feature) : (s.updateFeature k f).sawFitted = s.sawFitted := rfl
@[simp] theorem State.updateFeature_resetN (s : State) (k : Nat) (f : Feature → Feature) : (s.updateFeature k f).resetN = s.resetN := rfl
@[simp] theorem State.updateFeature_hold (s : State) (k : Nat) (f : Feature → Feature) : (s.updateFeature k f).hold = s.hold := rfl
@[simp] theorem State.updateFeature_flags (s : State) (k : Nat) (f : Feature → Feature) : (s.updateFeature k f).flags = s.flags := rfl
@[simp] theorem State.updateFeature_processCapture (s : State) (k : Nat) (f : Feature → Feature) : (s.updateFeature k f).processCapture = s.processCapture := rfl
@[simp] theorem State.updateFeature_geometryCapture (s : State) (k : Nat) (f : Feature → Feature) : (s.updateFeature k f).geometryCapture = s.geometryCapture := rfl
@[simp] theorem State.updateFeature_reasons (s : State) (k : Nat) (f : Feature → Feature) : (s.updateFeature k f).reasons = s.reasons := rfl
@[simp] theorem State.updateFeature_enables (s : State) (k : Nat) (f : Feature → Feature) : (s.updateFeature k f).enables = s.enables := rfl
@[simp] theorem State.updateFeature_attn (s : State) (k : Nat) (f : Feature → Feature) : (s.updateFeature k f).attn = s.attn := rfl
@[simp] theorem State.updateFeature_haltReq (s : State) (k : Nat) (f : Feature → Feature) : (s.updateFeature k f).haltReq = s.haltReq := rfl
@[simp] theorem State.updateFeature_ports (s : State) (k : Nat) (f : Feature → Feature) : (s.updateFeature k f).ports = s.ports := rfl
@[simp] theorem State.updateFeature_inbound (s : State) (k : Nat) (f : Feature → Feature) : (s.updateFeature k f).inbound = s.inbound := rfl
@[simp] theorem State.updateFeature_serving (s : State) (k : Nat) (f : Feature → Feature) : (s.updateFeature k f).serving = s.serving := rfl
@[simp] theorem State.updateFeature_pending (s : State) (k : Nat) (f : Feature → Feature) : (s.updateFeature k f).pending = s.pending := rfl

/-! ### `acceptLevel` -/

@[simp] theorem State.acceptLevel_walls (s : State) (l : Line) : (s.acceptLevel l).walls = s.walls := rfl
@[simp] theorem State.acceptLevel_features (s : State) (l : Line) : (s.acceptLevel l).features = s.features := rfl
@[simp] theorem State.acceptLevel_kinds (s : State) (l : Line) : (s.acceptLevel l).kinds = s.kinds := rfl
@[simp] theorem State.acceptLevel_profiles (s : State) (l : Line) : (s.acceptLevel l).profiles = s.profiles := rfl
@[simp] theorem State.acceptLevel_params (s : State) (l : Line) : (s.acceptLevel l).params = s.params := rfl
@[simp] theorem State.acceptLevel_courses (s : State) (l : Line) : (s.acceptLevel l).courses = s.courses := rfl
@[simp] theorem State.acceptLevel_load (s : State) (l : Line) : (s.acceptLevel l).load = s.load := rfl
@[simp] theorem State.acceptLevel_runs (s : State) (l : Line) : (s.acceptLevel l).runs = s.runs := rfl
@[simp] theorem State.acceptLevel_slots (s : State) (l : Line) : (s.acceptLevel l).slots = s.slots := rfl
@[simp] theorem State.acceptLevel_queue (s : State) (l : Line) : (s.acceptLevel l).queue = s.queue := rfl
@[simp] theorem State.acceptLevel_generation (s : State) (l : Line) : (s.acceptLevel l).generation = s.generation := rfl
@[simp] theorem State.acceptLevel_station (s : State) (l : Line) : (s.acceptLevel l).station = s.station := rfl
@[simp] theorem State.acceptLevel_siteTime (s : State) (l : Line) : (s.acceptLevel l).siteTime = s.siteTime := rfl
@[simp] theorem State.acceptLevel_filters (s : State) (l : Line) : (s.acceptLevel l).filters = s.filters.put l { s.filters.get l with level := (s.filters.get l).raw } := rfl
@[simp] theorem State.acceptLevel_senses (s : State) (l : Line) : (s.acceptLevel l).senses = s.senses := rfl
@[simp] theorem State.acceptLevel_sawFitted (s : State) (l : Line) : (s.acceptLevel l).sawFitted = s.sawFitted := rfl
@[simp] theorem State.acceptLevel_resetN (s : State) (l : Line) : (s.acceptLevel l).resetN = s.resetN := rfl
@[simp] theorem State.acceptLevel_hold (s : State) (l : Line) : (s.acceptLevel l).hold = s.hold := rfl
@[simp] theorem State.acceptLevel_flags (s : State) (l : Line) : (s.acceptLevel l).flags = s.flags := rfl
@[simp] theorem State.acceptLevel_processCapture (s : State) (l : Line) : (s.acceptLevel l).processCapture = s.processCapture := rfl
@[simp] theorem State.acceptLevel_geometryCapture (s : State) (l : Line) : (s.acceptLevel l).geometryCapture = s.geometryCapture := rfl
@[simp] theorem State.acceptLevel_reasons (s : State) (l : Line) : (s.acceptLevel l).reasons = s.reasons := rfl
@[simp] theorem State.acceptLevel_enables (s : State) (l : Line) : (s.acceptLevel l).enables = s.enables := rfl
@[simp] theorem State.acceptLevel_attn (s : State) (l : Line) : (s.acceptLevel l).attn = s.attn := rfl
@[simp] theorem State.acceptLevel_haltReq (s : State) (l : Line) : (s.acceptLevel l).haltReq = s.haltReq := rfl
@[simp] theorem State.acceptLevel_ports (s : State) (l : Line) : (s.acceptLevel l).ports = s.ports := rfl
@[simp] theorem State.acceptLevel_inbound (s : State) (l : Line) : (s.acceptLevel l).inbound = s.inbound := rfl
@[simp] theorem State.acceptLevel_serving (s : State) (l : Line) : (s.acceptLevel l).serving = s.serving := rfl
@[simp] theorem State.acceptLevel_pending (s : State) (l : Line) : (s.acceptLevel l).pending = s.pending := rfl

/-! ### `setReceiver` -/

@[simp] theorem State.setReceiver_walls (s : State) (port : Port) (r : Receiver) : (s.setReceiver port r).walls = s.walls := rfl
@[simp] theorem State.setReceiver_features (s : State) (port : Port) (r : Receiver) : (s.setReceiver port r).features = s.features := rfl
@[simp] theorem State.setReceiver_kinds (s : State) (port : Port) (r : Receiver) : (s.setReceiver port r).kinds = s.kinds := rfl
@[simp] theorem State.setReceiver_profiles (s : State) (port : Port) (r : Receiver) : (s.setReceiver port r).profiles = s.profiles := rfl
@[simp] theorem State.setReceiver_params (s : State) (port : Port) (r : Receiver) : (s.setReceiver port r).params = s.params := rfl
@[simp] theorem State.setReceiver_courses (s : State) (port : Port) (r : Receiver) : (s.setReceiver port r).courses = s.courses := rfl
@[simp] theorem State.setReceiver_load (s : State) (port : Port) (r : Receiver) : (s.setReceiver port r).load = s.load := rfl
@[simp] theorem State.setReceiver_runs (s : State) (port : Port) (r : Receiver) : (s.setReceiver port r).runs = s.runs := rfl
@[simp] theorem State.setReceiver_slots (s : State) (port : Port) (r : Receiver) : (s.setReceiver port r).slots = s.slots := rfl
@[simp] theorem State.setReceiver_queue (s : State) (port : Port) (r : Receiver) : (s.setReceiver port r).queue = s.queue := rfl
@[simp] theorem State.setReceiver_generation (s : State) (port : Port) (r : Receiver) : (s.setReceiver port r).generation = s.generation := rfl
@[simp] theorem State.setReceiver_station (s : State) (port : Port) (r : Receiver) : (s.setReceiver port r).station = s.station := rfl
@[simp] theorem State.setReceiver_siteTime (s : State) (port : Port) (r : Receiver) : (s.setReceiver port r).siteTime = s.siteTime := rfl
@[simp] theorem State.setReceiver_filters (s : State) (port : Port) (r : Receiver) : (s.setReceiver port r).filters = s.filters := rfl
@[simp] theorem State.setReceiver_senses (s : State) (port : Port) (r : Receiver) : (s.setReceiver port r).senses = s.senses := rfl
@[simp] theorem State.setReceiver_sawFitted (s : State) (port : Port) (r : Receiver) : (s.setReceiver port r).sawFitted = s.sawFitted := rfl
@[simp] theorem State.setReceiver_resetN (s : State) (port : Port) (r : Receiver) : (s.setReceiver port r).resetN = s.resetN := rfl
@[simp] theorem State.setReceiver_hold (s : State) (port : Port) (r : Receiver) : (s.setReceiver port r).hold = s.hold := rfl
@[simp] theorem State.setReceiver_flags (s : State) (port : Port) (r : Receiver) : (s.setReceiver port r).flags = s.flags := rfl
@[simp] theorem State.setReceiver_processCapture (s : State) (port : Port) (r : Receiver) : (s.setReceiver port r).processCapture = s.processCapture := rfl
@[simp] theorem State.setReceiver_geometryCapture (s : State) (port : Port) (r : Receiver) : (s.setReceiver port r).geometryCapture = s.geometryCapture := rfl
@[simp] theorem State.setReceiver_reasons (s : State) (port : Port) (r : Receiver) : (s.setReceiver port r).reasons = s.reasons := rfl
@[simp] theorem State.setReceiver_enables (s : State) (port : Port) (r : Receiver) : (s.setReceiver port r).enables = s.enables := rfl
@[simp] theorem State.setReceiver_attn (s : State) (port : Port) (r : Receiver) : (s.setReceiver port r).attn = s.attn := rfl
@[simp] theorem State.setReceiver_haltReq (s : State) (port : Port) (r : Receiver) : (s.setReceiver port r).haltReq = s.haltReq := rfl
@[simp] theorem State.setReceiver_ports (s : State) (port : Port) (r : Receiver) : (s.setReceiver port r).ports = s.ports.put port { s.ports.get port with receiver := r } := rfl
@[simp] theorem State.setReceiver_inbound (s : State) (port : Port) (r : Receiver) : (s.setReceiver port r).inbound = s.inbound := rfl
@[simp] theorem State.setReceiver_serving (s : State) (port : Port) (r : Receiver) : (s.setReceiver port r).serving = s.serving := rfl
@[simp] theorem State.setReceiver_pending (s : State) (port : Port) (r : Receiver) : (s.setReceiver port r).pending = s.pending := rfl

end Sys2Proof.Machine
end

