-- ==== Sys2Proof/Laws/Table.lean ====
section
/-! SUPPORT. What the four operations on a table of records do to the reading of a record, and that each keeps the table's
one form. -/

namespace Sys2Proof.Machine

variable {α : Type}

@[simp] theorem Table.find_nil (k : Nat) : Table.find ([] : List (Nat × α)) k = none := rfl

@[simp] theorem Table.find_cons (j k : Nat) (v : α) (t : List (Nat × α)) :
    Table.find ((j, v) :: t) k = if j = k then some v else Table.find t k := rfl

@[simp] theorem Table.find_put_same (t : List (Nat × α)) (k : Nat) (v : α) : Table.find (Table.put t k v) k = some v := by
  induction t with
  | nil => simp [Table.put]
  | cons e t ih =>
    obtain ⟨j, w⟩ := e
    simp only [Table.put]
    split
    · simp
    · split
      · simp
      · rename_i h1 h2
        have : j ≠ k := fun h => h2 h.symm
        simp [this, ih]

theorem Table.find_put_other (t : List (Nat × α)) {k j : Nat} (v : α) (h : j ≠ k) :
    Table.find (Table.put t k v) j = Table.find t j := by
  induction t with
  | nil => simp [Table.put, Ne.symm h]
  | cons e t ih =>
    obtain ⟨i, w⟩ := e
    simp only [Table.put]
    split
    · simp [Ne.symm h]
    · split
      · rename_i h2
        subst h2
        simp [Ne.symm h]
      · simp [ih]

@[simp] theorem Table.find_free_same (t : List (Nat × α)) (k : Nat) : Table.find (Table.free t k) k = none := by
  induction t with
  | nil => rfl
  | cons e t ih =>
    obtain ⟨j, w⟩ := e
    by_cases h : j = k
    · simpa [Table.free, h] using ih
    · simpa [Table.free, h] using ih

theorem Table.find_free_other (t : List (Nat × α)) {k j : Nat} (h : j ≠ k) :
    Table.find (Table.free t k) j = Table.find t j := by
  induction t with
  | nil => rfl
  | cons e t ih =>
    obtain ⟨i, w⟩ := e
    by_cases hi : i = k
    · have : i ≠ j := by omega
      simpa [Table.free, hi, Ne.symm h] using ih
    · have ih' : Table.find (List.filter (fun e => !decide (e.1 = k)) t) j = Table.find t j := by
        simpa [Table.free] using ih
      simp [Table.free, hi, ih']

theorem Table.find_update (t : List (Nat × α)) (k j : Nat) (f : α → α) :
    Table.find (Table.update t k f) j = if j = k then (Table.find t j).map f else Table.find t j := by
  induction t with
  | nil => simp [Table.update]
  | cons e t ih =>
    obtain ⟨i, w⟩ := e
    have ih' : Table.find (List.map (fun e => if e.1 = k then (e.1, f e.2) else e) t) j =
        if j = k then (Table.find t j).map f else Table.find t j := by simpa [Table.update] using ih
    by_cases hi : i = k
    · by_cases hj : i = j
      · simp [Table.update, hi, ← hj]
      · have : ¬ j = k := by omega
        simp [Table.update, hi, this, show ¬ k = j by omega] at ih' ⊢
        exact ih'
    · by_cases hj : i = j
      · have : ¬ j = k := by omega
        simp [Table.update, hj, this]
      · simp [Table.update, hi, hj, ih']

@[simp] theorem Table.find_update_same (t : List (Nat × α)) (k : Nat) (f : α → α) :
    Table.find (Table.update t k f) k = (Table.find t k).map f := by simp [Table.find_update]

theorem Table.find_update_other (t : List (Nat × α)) {k j : Nat} (f : α → α) (h : j ≠ k) :
    Table.find (Table.update t k f) j = Table.find t j := by simp [Table.find_update, h]

theorem Table.mem_of_find {t : List (Nat × α)} {k : Nat} {v : α} (h : Table.find t k = some v) : (k, v) ∈ t := by
  induction t with
  | nil => simp at h
  | cons e t ih =>
    obtain ⟨j, w⟩ := e
    by_cases hj : j = k
    · simp_all
    · simp [hj] at h
      exact List.mem_cons_of_mem _ (ih h)

theorem Table.find_of_mem {t : List (Nat × α)} {k : Nat} {v : α} (hs : t.Pairwise fun a b => a.1 < b.1)
    (h : (k, v) ∈ t) : Table.find t k = some v := by
  induction t with
  | nil => simp at h
  | cons e t ih =>
    obtain ⟨j, w⟩ := e
    rw [List.pairwise_cons] at hs
    rcases List.mem_cons.mp h with h | h
    · cases h
      simp
    · have := hs.1 _ h
      have hj : ¬ j = k := by simp at this; omega
      simp [hj, ih hs.2 h]

theorem Table.mem_put {t : List (Nat × α)} {k : Nat} {v : α} {e : Nat × α} (h : e ∈ Table.put t k v) :
    e = (k, v) ∨ e ∈ t := by
  induction t with
  | nil => simp [Table.put] at h; exact .inl h
  | cons x t ih =>
    obtain ⟨j, w⟩ := x
    simp only [Table.put] at h
    split at h
    · rcases List.mem_cons.mp h with h | h
      · exact .inl h
      · exact .inr h
    · split at h
      · rcases List.mem_cons.mp h with h | h
        · exact .inl h
        · exact .inr (List.mem_cons_of_mem _ h)
      · rcases List.mem_cons.mp h with h | h
        · exact .inr (h ▸ List.mem_cons_self)
        · rcases ih h with h | h
          · exact .inl h
          · exact .inr (List.mem_cons_of_mem _ h)

/-- A record written within the range of its table keeps the table's form. -/
theorem Table.canonical_put {lo hi : Nat} {t : List (Nat × α)} {k : Nat} {v : α} (ht : Table.canonical lo hi t)
    (h1 : lo ≤ k) (h2 : k < hi) : Table.canonical lo hi (Table.put t k v) := by
  refine ⟨?_, fun e he => ?_⟩
  · have hs := ht.1
    clear ht
    induction t with
    | nil => simp [Table.put]
    | cons x t ih =>
      obtain ⟨j, w⟩ := x
      rw [List.pairwise_cons] at hs
      simp only [Table.put]
      split
      · rename_i hk
        rw [List.pairwise_cons]
        refine ⟨fun e he => ?_, List.pairwise_cons.mpr hs⟩
        rcases List.mem_cons.mp he with rfl | he
        · exact hk
        · have := hs.1 e he; simp at this ⊢; omega
      · split
        · rename_i hk
          subst hk
          rw [List.pairwise_cons]
          exact ⟨fun e he => hs.1 e he, hs.2⟩
        · rw [List.pairwise_cons]
          refine ⟨fun e he => ?_, ih hs.2⟩
          rcases Table.mem_put he with rfl | he
          · simp; omega
          · exact hs.1 e he
  · rcases Table.mem_put he with rfl | he
    · exact ⟨h1, h2⟩
    · exact ht.2 e he

/-- A table from which records are taken keeps its form. -/
theorem Table.canonical_filter {lo hi : Nat} {t : List (Nat × α)} (p : Nat × α → Bool) (ht : Table.canonical lo hi t) :
    Table.canonical lo hi (t.filter p) :=
  ⟨ht.1.filter p, fun e he => ht.2 e (List.mem_of_mem_filter he)⟩

/-- Freeing a record keeps the table's form. -/
theorem Table.canonical_free {lo hi : Nat} {t : List (Nat × α)} (k : Nat) (ht : Table.canonical lo hi t) :
    Table.canonical lo hi (Table.free t k) := Table.canonical_filter _ ht

/-- Changing records, but no identifier, keeps the table's form. -/
theorem Table.canonical_map {lo hi : Nat} {t : List (Nat × α)} (f : Nat × α → Nat × α) (hf : ∀ e, (f e).1 = e.1)
    (ht : Table.canonical lo hi t) : Table.canonical lo hi (t.map f) := by
  refine ⟨?_, fun e he => ?_⟩
  · rw [List.pairwise_map]
    exact ht.1.imp fun {a b} h => by rw [hf, hf]; exact h
  · obtain ⟨x, hx, rfl⟩ := List.mem_map.mp he
    rw [hf]
    exact ht.2 x hx

/-- Changing a record keeps the table's form. -/
theorem Table.canonical_update {lo hi : Nat} {t : List (Nat × α)} (k : Nat) (f : α → α) (ht : Table.canonical lo hi t) :
    Table.canonical lo hi (Table.update t k f) :=
  Table.canonical_map _ (fun e => by split <;> rfl) ht

/-- An identifier that is taken as unused is in its range and not in use. -/
theorem Table.mem_unused {t : List (Nat × α)} {first count k : Nat} (h : k ∈ Table.unused t first count) :
    first ≤ k ∧ k < first + count ∧ Table.find t k = none := by
  simp only [Table.unused, List.mem_filter, List.mem_range'_1, Option.isNone_iff_eq_none] at h
  exact ⟨h.1.1, h.1.2, h.2⟩

end Sys2Proof.Machine
end

