-- ==== Sys2Proof/Laws/Ops.lean ====
section
/-! SUPPORT. What each shared operation can do, said once: a report, a transmission, a choice of the arbiter, an arrival, the
service of a request, a placement, a verification. A lemma `<operation>_frame` says which fields an operation can change. -/

namespace Sys2Proof.Machine

/-! ### Ports -/

@[simp] theorem Ports.get_put_same (ps : Ports) (port : Port) (v : PortState) : (ps.put port v).get port = v := by
  cases port <;> rfl

theorem Ports.get_put_other (ps : Ports) {port other : Port} (v : PortState) (h : other ≠ port) :
    (ps.put port v).get other = ps.get other := by
  cases port <;> cases other <;> first | rfl | exact absurd rfl h

@[simp] theorem Ports.put_get (ps : Ports) (port : Port) : ps.put port (ps.get port) = ps := by cases port <;> rfl

@[simp] theorem Ports.put_put (ps : Ports) (port : Port) (v w : PortState) : (ps.put port v).put port w = ps.put port w := by
  cases port <;> rfl

/-! ### Lines -/

@[simp] theorem Lines.get_put_same {α : Type} (l : Lines α) (line : Line) (v : α) : (l.put line v).get line = v := by
  cases line <;> rfl

theorem Lines.get_put_other {α : Type} (l : Lines α) {line other : Line} (v : α) (h : other ≠ line) :
    (l.put line v).get other = l.get other := by
  cases line <;> cases other <;> first | rfl | exact absurd rfl h

/-! ### Fault reports -/

/-- R164: the flag of a report is set; the other flags are as they were. -/
theorem State.report_flags (s : State) (r : Report) : (s.report r).flags = s.flags.put r.flag true := by
  unfold State.report State.offer
  dsimp only
  split <;> split <;> rfl

/-- R164: a report changes the flags, the captures, the reasons and the outputs, and nothing else. -/
theorem State.report_frame (s : State) (r : Report) :
    s.report r =
      { s with
        flags := (s.report r).flags, processCapture := (s.report r).processCapture
        geometryCapture := (s.report r).geometryCapture, reasons := (s.report r).reasons, attn := (s.report r).attn
        haltReq := (s.report r).haltReq } := by
  unfold State.report State.offer
  dsimp only
  split <;> split <;> rfl

/-- R174: a reference event changes what a report changes. -/
theorem State.referenceEvent_frame (s : State) (port : Port) (slot : Option Nat) (recordType identifier : Nat) :
    s.referenceEvent port slot recordType identifier =
      { s with
        flags := (s.referenceEvent port slot recordType identifier).flags
        processCapture := (s.referenceEvent port slot recordType identifier).processCapture
        geometryCapture := (s.referenceEvent port slot recordType identifier).geometryCapture
        reasons := (s.referenceEvent port slot recordType identifier).reasons
        attn := (s.referenceEvent port slot recordType identifier).attn
        haltReq := (s.referenceEvent port slot recordType identifier).haltReq } := by
  unfold State.referenceEvent
  split
  · exact State.report_frame _ _
  · rfl

/-- R174: with strict references off, a reference event is discarded. -/
theorem State.referenceEvent_off (s : State) (port : Port) (slot : Option Nat) (recordType identifier : Nat)
    (h : s.params.strictReferences = false) : s.referenceEvent port slot recordType identifier = s := by
  simp [State.referenceEvent, h]

/-! ### The transmitter and the arbiter -/

/-- R187: a transmission adds one response at the end of one port's queue. -/
theorem State.transmit_eq (s : State) (h : Header) (r : Reply) :
    s.transmit h r =
      { s with
        ports := s.ports.put h.port
          { s.ports.get h.port with
            transmit := (s.ports.get h.port).transmit ++
              [{ tag := h.tag, code := h.code, reply := s.withSummary h.port r }] } } := rfl

/-- R186: the arbiter chooses only when nothing is being served. -/
@[simp] theorem State.arbitrate_of_serving (s : State) {i : Instr} (h : s.serving = some i) : s.arbitrate = s := by
  simp [State.arbitrate, h]

/-- R186: the choice of the arbiter. -/
theorem State.arbitrate_of_idle (s : State) (h : s.serving = none) :
    s.arbitrate = { s with serving := (nextChoice s.inbound).1, inbound := (nextChoice s.inbound).2 } := by
  unfold State.arbitrate nextChoice
  cases hc : choose s.inbound with
  | none => cases s; simp_all
  | some c => simp [h]

/-- R186: the arbiter changes only what waits and what is served. -/
theorem State.arbitrate_frame (s : State) :
    s.arbitrate = { s with serving := s.arbitrate.serving, inbound := s.arbitrate.inbound } := by
  unfold State.arbitrate
  split
  · rfl
  · split <;> rfl

/-- R186, R187: what the end of a service does. -/
theorem State.conclude_eq (s : State) (h : Header) (r : Reply) :
    s.conclude h r =
      { s with
        ports := (s.transmit h r).ports, serving := (nextChoice s.inbound).1, inbound := (nextChoice s.inbound).2 } := by
  unfold State.conclude
  rw [State.arbitrate_of_idle _ rfl]
  rfl

/-! ### Arrivals -/

/-- R185: an OVERRUN answer changes one port, the OVERRUN flag, and what a report changes. -/
theorem State.overrun_frame (s : State) (h : Header) :
    s.overrun h =
      { s with
        ports := (s.overrun h).ports, flags := (s.overrun h).flags, processCapture := (s.overrun h).processCapture
        geometryCapture := (s.overrun h).geometryCapture, reasons := (s.overrun h).reasons, attn := (s.overrun h).attn
        haltReq := (s.overrun h).haltReq } := by
  unfold State.overrun
  dsimp only
  split
  · rw [State.report_frame]; rfl
  · rw [State.report_frame]

/-- R185: an arrival on a port with a request outstanding is answered OVERRUN. -/
theorem State.arrive_of_outstanding (s : State) (i : Instr) (h : Header)
    (ho : (s.ports.get h.port).outstanding = true) : s.arrive i h = s.overrun h := by simp [State.arrive, ho]

/-- R185: an arrival on another port joins the inbound queue, and the arbiter chooses if nothing is served. -/
theorem State.arrive_of_clear (s : State) (i : Instr) (h : Header)
    (ho : (s.ports.get h.port).outstanding = false) : s.arrive i h = (s.enqueue i h).arbitrate := by
  simp [State.arrive, ho]

/-- A request that is being served was presented before. -/
@[simp] theorem State.presented_of_serving (s : State) (i : Instr) (h : Header) (hs : s.serving = some i) :
    s.presented i h = s := by simp [State.presented, hs]

/-- What a request that is served now has changed by arriving: the Port Unit's state and nothing else. -/
theorem State.presented_of_served (s : State) (i : Instr) (h : Header) (hs : (s.presented i h).serving = some i) :
    s.presented i h = s.withPortUnitOf (s.presented i h) := by
  by_cases hw : (s.serving = some i || s.isWaiting i) = true
  · have : s.presented i h = s := by simp only [State.presented, hw, if_true]
    rw [this]; rfl
  · have hp : s.presented i h = s.arrive i h := by
      simp only [State.presented]
      rw [if_neg hw]
    rw [hp] at hs ⊢
    cases ho : (s.ports.get h.port).outstanding with
    | true =>
      exfalso
      rw [State.arrive_of_outstanding _ _ _ ho, State.overrun_frame] at hs
      simp at hw
      exact hw.1 hs
    | false =>
      rw [State.arrive_of_clear _ _ _ ho, State.arbitrate_frame]
      rfl

/-! ### The service of a request -/

/-- The body of a request that is served runs, its response is handed over, and the arbiter chooses again. -/
theorem serve_of_serves (i : Instr) (h : Header) (body : State → Reply × State) (s : State) (hh : i.header = some h)
    (hs : s.serves i = true) :
    serve i body s = .next ((body (s.presented i h)).2.conclude h (body (s.presented i h)).1) := by
  simp only [State.serves, hh, Option.any_some, Bool.and_eq_true, Bool.not_eq_true', decide_eq_true_eq] at hs
  simp [serve, hh, hs.1, hs.2]

/-- A request that is not served now: what its arrival does is all that happens. -/
theorem serve_of_not_serves (i : Instr) (h : Header) (body : State → Reply × State) (s : State)
    (hh : i.header = some h) (hr : s.held = false) (hs : s.serves i = false) :
    serve i body s = .next (s.presented i h) := by
  simp [State.serves, hh, hr] at hs
  simp [serve, hh, hr, hs]

/-- R180: a held part serves nothing. -/
theorem serve_of_held (i : Instr) (body : State → Reply × State) (s : State) (hr : s.held = true) :
    serve i body s = .next s := by
  unfold serve
  cases i.header <;> simp [hr]

/-- The response of a served request, and the arbiter's choice, when the body has left the Port Unit alone. -/
theorem conclude_answered (s u : State) (i : Instr) (h : Header) (r : Reply) (hh : i.header = some h)
    (hp : u.ports = (s.presented i h).ports) (hi : u.inbound = (s.presented i h).inbound) :
    Answered s i h (u.conclude h r) (u.withSummary h.port r) := by
  refine ⟨hh, ?_, ?_⟩
  · rw [State.conclude_eq]
    simp [State.transmit_eq, hp]
  · rw [State.conclude_eq, hi]

/-- The service of a request, said once for every request: `r` is the reply of its body and `u` the state it leaves, whatever
the Port Unit holds. -/
theorem serve_answered (i : Instr) (h : Header) (body : State → Reply × State) (s : State) (r : Reply) (u : State)
    (hh : i.header = some h) (hs : s.serves i = true)
    (hb : ∀ v : State, body (s.withPortUnitOf v) = (r, u.withPortUnitOf v)) :
    ∃ t, serve i body s = .next t ∧ Answered s i h t (u.withSummary h.port r) ∧ t = u.withPortUnitOf t := by
  have hp : s.presented i h = s.withPortUnitOf (s.presented i h) := by
    simp only [State.serves, hh, Option.any_some, Bool.and_eq_true, decide_eq_true_eq] at hs
    exact State.presented_of_served _ _ _ hs.2
  have he : body (s.presented i h) = (r, u.withPortUnitOf (s.presented i h)) := by rw [hp]; exact hb _
  refine ⟨_, serve_of_serves i h body s hh hs, ?_, ?_⟩ <;> rw [he]
  · exact conclude_answered s (u.withPortUnitOf (s.presented i h)) i h r hh rfl rfl
  · rw [State.conclude_eq]
    rfl

/-- R180: an event while a full reset holds the part. -/
theorem event_of_held (effect : State → State) (s : State) (hr : s.held = true) : event effect s = .next s := by
  simp [event, hr]

/-- An event while the part works. -/
theorem event_of_running (effect : State → State) (s : State) (hr : s.held = false) :
    event effect s = .next (effect s) := by
  simp [event, hr]

/-! ### Drain, completion, placement, verification -/

/-- R109, R155: a feed-empty report changes the station, the reasons and the outputs. -/
theorem State.feedEmpty_frame (s : State) :
    s.feedEmpty =
      { s with
        station := s.feedEmpty.station, reasons := s.feedEmpty.reasons, attn := s.feedEmpty.attn
        haltReq := s.feedEmpty.haltReq } := by
  unfold State.feedEmpty
  split <;> rfl

/-- R108: the head leaves the queue; only the last one's leaving changes more. -/
theorem State.removeHead_frame (s : State) :
    s.removeHead =
      { s with
        queue := s.queue.tail, station := s.removeHead.station, reasons := s.removeHead.reasons
        attn := s.removeHead.attn, haltReq := s.removeHead.haltReq } := by
  unfold State.removeHead
  dsimp only
  split
  · rw [State.feedEmpty_frame]
  · rfl

/-- R46: the completion test changes the course table, the reasons and the outputs. -/
theorem State.completionTest_frame (s : State) (entry : Nat) :
    s.completionTest entry =
      { s with
        courses := (s.completionTest entry).courses, reasons := (s.completionTest entry).reasons
        attn := (s.completionTest entry).attn, haltReq := (s.completionTest entry).haltReq } := by
  unfold State.completionTest
  split
  · rfl
  · split <;> rfl

/-- R121 steps 1 to 3: a placement changes the slot, the queue, the run, the station and what a raised reason changes. -/
theorem State.place_frame (s : State) (id : Nat) (sl : Slot) :
    s.place id sl =
      { s with
        slots := (s.place id sl).slots, runs := (s.place id sl).runs, queue := s.queue.tail
        station := (s.place id sl).station, reasons := (s.place id sl).reasons, attn := (s.place id sl).attn
        haltReq := (s.place id sl).haltReq } := by
  unfold State.place
  dsimp only
  rw [State.removeHead_frame]
  rfl

/-- R144: a rejection changes the slot and what a report changes. -/
theorem State.reject_frame (s : State) (id : Nat) (sl : Slot) (port : Port) (l : List Failure) :
    s.reject id sl port l =
      { s with
        slots := (s.reject id sl port l).slots, flags := (s.reject id sl port l).flags
        processCapture := (s.reject id sl port l).processCapture
        geometryCapture := (s.reject id sl port l).geometryCapture
        reasons := (s.reject id sl port l).reasons, attn := (s.reject id sl port l).attn
        haltReq := (s.reject id sl port l).haltReq } := by
  unfold State.reject
  rw [State.report_frame]
  rfl

/-- R141 to R145: a verification changes the slot, its course's entry, and what a report changes. -/
theorem State.verify_frame (s : State) (id : Nat) (port : Port) :
    s.verify id port =
      { s with
        slots := (s.verify id port).slots, courses := (s.verify id port).courses, flags := (s.verify id port).flags
        processCapture := (s.verify id port).processCapture, geometryCapture := (s.verify id port).geometryCapture
        reasons := (s.verify id port).reasons, attn := (s.verify id port).attn
        haltReq := (s.verify id port).haltReq } := by
  unfold State.verify
  split
  · rfl
  · split
    · rfl
    · split
      · unfold State.verifySlot
        rw [State.completionTest_frame]
        rfl
      · rw [State.reject_frame]


/-- A request whose body answers without a change changes no record. -/
theorem serve_unchanged (i : Instr) (h : Header) (body : State → Reply × State) (s : State) (r : Reply)
    (hx : exec i s = serve i body s) (hh : i.header = some h) (hs : s.serves i = true)
    (hb : ∀ v : State, body (s.withPortUnitOf v) = (r, s.withPortUnitOf v)) :
    AnswersUnchanged s i h (s.withSummary h.port r) := by
  obtain ⟨t, ht, ha, hf⟩ := serve_answered i h body s r s hh hs hb
  exact ⟨t, hx.trans ht, ha, hf⟩

/-! ### Tables of conditions -/

@[simp] theorem firstOf_nil : FirstOf [] := trivial

@[simp] theorem firstOf_cons (condition outcome : Prop) (rest : List (Prop × Prop)) :
    FirstOf ((condition, outcome) :: rest) ↔ (condition → outcome) ∧ (¬ condition → FirstOf rest) := Iff.rfl

/-! ### Loads -/

/-- R27 to R30: a load that is closed without a course frees its entry. -/
theorem State.dropLoad_frame (s : State) :
    s.dropLoad = { s with courses := s.dropLoad.courses, load := none } := by
  unfold State.dropLoad
  split
  · cases s; simp_all
  · rfl

/-- R39: an allocation changes the slot, run, course and wall tables and closes the load. -/
theorem allocateRuns_frame (entry kind : Nat) (plans : List RunPlan) (runs ids : List Nat) (s : State) :
    allocateRuns entry kind plans runs ids s =
      { s with
        runs := (allocateRuns entry kind plans runs ids s).runs
        slots := (allocateRuns entry kind plans runs ids s).slots } := by
  induction plans generalizing runs ids s with
  | nil => simp [allocateRuns]
  | cons p ps ih =>
    cases runs with
    | nil => simp [allocateRuns]
    | cons r rs => simp only [allocateRuns]; rw [ih]

/-- R30: a commit changes the course, run, slot and wall tables and closes the load. -/
theorem commit_frame (s : State) (entry : Nat) (runs : List (Int × Int)) :
    (commit s entry runs).2 =
      { s with
        courses := (commit s entry runs).2.courses, runs := (commit s entry runs).2.runs
        slots := (commit s entry runs).2.slots, walls := (commit s entry runs).2.walls
        load := none } := by
  unfold commit
  dsimp only
  split
  · rw [State.dropLoad_frame]
  · unfold allocate
    dsimp only
    rw [allocateRuns_frame]
    rfl

end Sys2Proof.Machine
end

