-- ==== Sys2Proof/Laws/Bodies.lean ====
section
/-! SUPPORT. That no body of a request reads or writes the Port Unit, and so the one lemma from which what a served request
does is read off its body: `serve_body`. A proof about a request needs its body's lemma `<body>_ignores` and the body itself
on the state `s`; it does not meet the ports, the arbiter or the presentation of the request. -/

namespace Sys2Proof.Machine

/-! ### The fields of a state with the Port Unit of another -/

@[simp] theorem State.withPortUnitOf_walls (s v : State) : (s.withPortUnitOf v).walls = s.walls := rfl
@[simp] theorem State.withPortUnitOf_features (s v : State) : (s.withPortUnitOf v).features = s.features := rfl
@[simp] theorem State.withPortUnitOf_kinds (s v : State) : (s.withPortUnitOf v).kinds = s.kinds := rfl
@[simp] theorem State.withPortUnitOf_profiles (s v : State) : (s.withPortUnitOf v).profiles = s.profiles := rfl
@[simp] theorem State.withPortUnitOf_params (s v : State) : (s.withPortUnitOf v).params = s.params := rfl
@[simp] theorem State.withPortUnitOf_courses (s v : State) : (s.withPortUnitOf v).courses = s.courses := rfl
@[simp] theorem State.withPortUnitOf_load (s v : State) : (s.withPortUnitOf v).load = s.load := rfl
@[simp] theorem State.withPortUnitOf_runs (s v : State) : (s.withPortUnitOf v).runs = s.runs := rfl
@[simp] theorem State.withPortUnitOf_slots (s v : State) : (s.withPortUnitOf v).slots = s.slots := rfl
@[simp] theorem State.withPortUnitOf_queue (s v : State) : (s.withPortUnitOf v).queue = s.queue := rfl
@[simp] theorem State.withPortUnitOf_generation (s v : State) : (s.withPortUnitOf v).generation = s.generation := rfl
@[simp] theorem State.withPortUnitOf_station (s v : State) : (s.withPortUnitOf v).station = s.station := rfl
@[simp] theorem State.withPortUnitOf_siteTime (s v : State) : (s.withPortUnitOf v).siteTime = s.siteTime := rfl
@[simp] theorem State.withPortUnitOf_filters (s v : State) : (s.withPortUnitOf v).filters = s.filters := rfl
@[simp] theorem State.withPortUnitOf_senses (s v : State) : (s.withPortUnitOf v).senses = s.senses := rfl
@[simp] theorem State.withPortUnitOf_sawFitted (s v : State) : (s.withPortUnitOf v).sawFitted = s.sawFitted := rfl
@[simp] theorem State.withPortUnitOf_resetN (s v : State) : (s.withPortUnitOf v).resetN = s.resetN := rfl
@[simp] theorem State.withPortUnitOf_hold (s v : State) : (s.withPortUnitOf v).hold = s.hold := rfl
@[simp] theorem State.withPortUnitOf_flags (s v : State) : (s.withPortUnitOf v).flags = s.flags := rfl
@[simp] theorem State.withPortUnitOf_processCapture (s v : State) : (s.withPortUnitOf v).processCapture = s.processCapture := rfl
@[simp] theorem State.withPortUnitOf_geometryCapture (s v : State) : (s.withPortUnitOf v).geometryCapture = s.geometryCapture := rfl
@[simp] theorem State.withPortUnitOf_reasons (s v : State) : (s.withPortUnitOf v).reasons = s.reasons := rfl
@[simp] theorem State.withPortUnitOf_enables (s v : State) : (s.withPortUnitOf v).enables = s.enables := rfl
@[simp] theorem State.withPortUnitOf_attn (s v : State) : (s.withPortUnitOf v).attn = s.attn := rfl
@[simp] theorem State.withPortUnitOf_haltReq (s v : State) : (s.withPortUnitOf v).haltReq = s.haltReq := rfl
@[simp] theorem State.withPortUnitOf_ports (s v : State) : (s.withPortUnitOf v).ports = v.ports := rfl
@[simp] theorem State.withPortUnitOf_inbound (s v : State) : (s.withPortUnitOf v).inbound = v.inbound := rfl
@[simp] theorem State.withPortUnitOf_serving (s v : State) : (s.withPortUnitOf v).serving = v.serving := rfl
@[simp] theorem State.withPortUnitOf_pending (s v : State) : (s.withPortUnitOf v).pending = s.pending := rfl

/-! ### The records read are the same whatever the Port Unit holds -/

@[simp] theorem State.withPortUnitOf_wall (s v : State) (w : Nat) : (s.withPortUnitOf v).wall w = s.wall w := rfl
@[simp] theorem State.withPortUnitOf_feature (s v : State) (k : Nat) :
    (s.withPortUnitOf v).feature k = s.feature k := rfl
@[simp] theorem State.withPortUnitOf_course (s v : State) (e : Nat) :
    (s.withPortUnitOf v).course e = s.course e := rfl
@[simp] theorem State.withPortUnitOf_run (s v : State) (r : Nat) : (s.withPortUnitOf v).run r = s.run r := rfl
@[simp] theorem State.withPortUnitOf_slot (s v : State) (id : Nat) : (s.withPortUnitOf v).slot id = s.slot id := rfl
@[simp] theorem State.withPortUnitOf_kind (s v : State) (k : Nat) : (s.withPortUnitOf v).kind k = s.kind k := rfl
@[simp] theorem State.withPortUnitOf_profile (s v : State) (k : Nat) :
    (s.withPortUnitOf v).profile k = s.profile k := rfl
@[simp] theorem State.withPortUnitOf_runOf (s v : State) (sl : Slot) :
    (s.withPortUnitOf v).runOf sl = s.runOf sl := rfl
@[simp] theorem State.withPortUnitOf_courseOf (s v : State) (sl : Slot) :
    (s.withPortUnitOf v).courseOf sl = s.courseOf sl := rfl
@[simp] theorem State.withPortUnitOf_profileOf (s v : State) (sl : Slot) :
    (s.withPortUnitOf v).profileOf sl = s.profileOf sl := rfl
@[simp] theorem State.withPortUnitOf_topOf (s v : State) (c : Course) :
    (s.withPortUnitOf v).topOf c = s.topOf c := rfl
@[simp] theorem State.withPortUnitOf_plannedLength (s v : State) (sl : Slot) :
    (s.withPortUnitOf v).plannedLength sl = s.plannedLength sl := rfl
@[simp] theorem State.withPortUnitOf_plannedRight (s v : State) (sl : Slot) :
    (s.withPortUnitOf v).plannedRight sl = s.plannedRight sl := rfl
@[simp] theorem State.withPortUnitOf_currentLength (s v : State) (sl : Slot) :
    (s.withPortUnitOf v).currentLength sl = s.currentLength sl := rfl
@[simp] theorem State.withPortUnitOf_targetRight (s v : State) (sl : Slot) :
    (s.withPortUnitOf v).targetRight sl = s.targetRight sl := rfl
@[simp] theorem State.withPortUnitOf_heldCourse (s v : State) (w n : Nat) :
    (s.withPortUnitOf v).heldCourse w n = s.heldCourse w n := rfl
@[simp] theorem State.withPortUnitOf_liveCourse (s v : State) (w n : Nat) :
    (s.withPortUnitOf v).liveCourse w n = s.liveCourse w n := rfl
@[simp] theorem State.withPortUnitOf_slotsAt (s v : State) (ids : List Nat) :
    (s.withPortUnitOf v).slotsAt ids = s.slotsAt ids := rfl
@[simp] theorem State.withPortUnitOf_courseSlots (s v : State) (c : Course) :
    (s.withPortUnitOf v).courseSlots c = s.courseSlots c := rfl
@[simp] theorem State.withPortUnitOf_laySlots (s v : State) (w : Nat) :
    (s.withPortUnitOf v).laySlots w = s.laySlots w := rfl
@[simp] theorem State.withPortUnitOf_predecessor (s v : State) (sl : Slot) :
    (s.withPortUnitOf v).predecessor sl = s.predecessor sl := rfl
@[simp] theorem State.withPortUnitOf_inHand (s v : State) : (s.withPortUnitOf v).inHand = s.inHand := rfl
@[simp] theorem State.withPortUnitOf_issuedSlot (s v : State) : (s.withPortUnitOf v).issuedSlot = s.issuedSlot := rfl
@[simp] theorem State.withPortUnitOf_capturedCourse (s v : State) (e : Nat) :
    (s.withPortUnitOf v).capturedCourse e = s.capturedCourse e := rfl
@[simp] theorem State.withPortUnitOf_queueSummary (s v : State) :
    (s.withPortUnitOf v).queueSummary = s.queueSummary := rfl
@[simp] theorem State.withPortUnitOf_withSummary (s v : State) (port : Port) (r : Reply) :
    (s.withPortUnitOf v).withSummary port r = s.withSummary port r := rfl
@[simp] theorem State.withPortUnitOf_chainFrom (s v : State) (n k : Nat) :
    (s.withPortUnitOf v).chainFrom n k = s.chainFrom n k := by
  induction n generalizing k with
  | zero => rfl
  | succ n ih => simp only [State.chainFrom, ih]; rfl
@[simp] theorem State.withPortUnitOf_chain (s v : State) (r : Wall) : (s.withPortUnitOf v).chain r = s.chain r :=
  State.withPortUnitOf_chainFrom s v _ _
@[simp] theorem State.withPortUnitOf_builtHeight (s v : State) (w : Nat) (r : Wall) :
    (s.withPortUnitOf v).builtHeight w r = s.builtHeight w r := rfl
@[simp] theorem State.withPortUnitOf_kindInUse (s v : State) (k : Nat) :
    (s.withPortUnitOf v).kindInUse k = s.kindInUse k := rfl
@[simp] theorem State.withPortUnitOf_profileInUse (s v : State) (k : Nat) :
    (s.withPortUnitOf v).profileInUse k = s.profileInUse k := rfl
@[simp] theorem State.withPortUnitOf_before (s v : State) (r : Wall) (k : Nat) :
    (s.withPortUnitOf v).before r k = s.before r k := by simp only [State.before, State.withPortUnitOf_chain]
@[simp] theorem State.withPortUnitOf_wallOf (s v : State) (f : Feature) :
    (s.withPortUnitOf v).wallOf f = s.wallOf f := rfl
@[simp] theorem State.withPortUnitOf_paramValue (s v : State) (k : Nat) :
    (s.withPortUnitOf v).paramValue k = s.paramValue k := rfl
@[simp] theorem State.withPortUnitOf_nextBaseZ (s v : State) (w : Nat) (r : Wall) (k : Nat) :
    (s.withPortUnitOf v).nextBaseZ w r k = s.nextBaseZ w r k := rfl
@[simp] theorem State.withPortUnitOf_stillSetting (s v : State) (sl : Slot) :
    (s.withPortUnitOf v).stillSetting sl = s.stillSetting sl := rfl
@[simp] theorem State.withPortUnitOf_courseField (s v : State) (e : Nat) (c : Course) :
    (s.withPortUnitOf v).courseField e c = s.courseField e c := rfl
@[simp] theorem State.withPortUnitOf_receivedField (s v : State) (c : Course) :
    (s.withPortUnitOf v).receivedField c = s.receivedField c := rfl
@[simp] theorem State.withPortUnitOf_runField (s v : State) (c : Course) (id : Nat) (r : Run) :
    (s.withPortUnitOf v).runField c id r = s.runField c id r := rfl
@[simp] theorem State.withPortUnitOf_slotField (s v : State) (id : Nat) (sl : Slot) :
    (s.withPortUnitOf v).slotField id sl = s.slotField id sl := rfl
@[simp] theorem State.withPortUnitOf_courseStateField (s v : State) (e : Nat) :
    (s.withPortUnitOf v).courseStateField e = s.courseStateField e := rfl
@[simp] theorem State.withPortUnitOf_laterFed (s v : State) (sl : Slot) :
    (s.withPortUnitOf v).laterFed sl = s.laterFed sl := rfl
@[simp] theorem State.withPortUnitOf_loadedBy (s v : State) (id : Nat) (sl : Slot) :
    (s.withPortUnitOf v).loadedBy id sl = s.loadedBy id sl := rfl
@[simp] theorem State.withPortUnitOf_knownFace (s v : State) (sl : Slot) :
    (s.withPortUnitOf v).knownFace sl = s.knownFace sl := rfl
@[simp] theorem State.withPortUnitOf_correction (s v : State) (sl : Slot) :
    (s.withPortUnitOf v).correction sl = s.correction sl := rfl
@[simp] theorem State.withPortUnitOf_cutFrom (s v : State) (l : List (Nat × Slot)) :
    (s.withPortUnitOf v).cutFrom l = s.cutFrom l := by
  induction l with
  | nil => rfl
  | cons e t ih => simp only [State.cutFrom, ih]; rfl
@[simp] theorem State.withPortUnitOf_rawCut (s v : State) (sl : Slot) :
    (s.withPortUnitOf v).rawCut sl = s.rawCut sl := by
  simp only [State.rawCut, State.withPortUnitOf_cutFrom, State.withPortUnitOf_runOf, State.withPortUnitOf_profileOf,
    State.withPortUnitOf_slotsAt]
@[simp] theorem State.withPortUnitOf_closerCut (s v : State) (sl : Slot) :
    (s.withPortUnitOf v).closerCut sl = s.closerCut sl := by
  simp only [State.closerCut, State.withPortUnitOf_rawCut]; rfl
@[simp] theorem State.withPortUnitOf_slackField (s v : State) (w n o : Nat) (c : Course) (id : Nat) (r : Run) :
    (s.withPortUnitOf v).slackField w n o c id r = s.slackField w n o c id r := rfl
@[simp] theorem State.withPortUnitOf_stationField (s v : State) :
    (s.withPortUnitOf v).stationField = s.stationField := rfl
@[simp] theorem State.withPortUnitOf_inReach (s v : State) (sl : Slot) :
    (s.withPortUnitOf v).inReach sl = s.inReach sl := rfl
@[simp] theorem State.withPortUnitOf_inHandField (s v : State) :
    (s.withPortUnitOf v).inHandField = s.inHandField := rfl
@[simp] theorem State.withPortUnitOf_candidate (s v : State) : (s.withPortUnitOf v).candidate = s.candidate := rfl
@[simp] theorem State.withPortUnitOf_reportedCandidate (s v : State) :
    (s.withPortUnitOf v).reportedCandidate = s.reportedCandidate := rfl
@[simp] theorem State.withPortUnitOf_entryField (s v : State) (e : Entry) :
    (s.withPortUnitOf v).entryField e = s.entryField e := rfl
@[simp] theorem State.withPortUnitOf_expectedSlot (s v : State) :
    (s.withPortUnitOf v).expectedSlot = s.expectedSlot := rfl
@[simp] theorem State.withPortUnitOf_nextHold (s v : State) : (s.withPortUnitOf v).nextHold = s.nextHold := rfl
@[simp] theorem State.withPortUnitOf_headHold (s v : State) (id : Nat) (sl : Slot) :
    (s.withPortUnitOf v).headHold id sl = s.headHold id sl := rfl
@[simp] theorem State.withPortUnitOf_headField (s v : State) : (s.withPortUnitOf v).headField = s.headField := rfl
@[simp] theorem State.withPortUnitOf_busyReply (s v : State) (id : Nat) (sl : Slot) :
    (s.withPortUnitOf v).busyReply id sl = s.busyReply id sl := rfl
@[simp] theorem State.withPortUnitOf_orderField (s v : State) (id : Nat) (sl : Slot) :
    (s.withPortUnitOf v).orderField id sl = s.orderField id sl := rfl
@[simp] theorem State.withPortUnitOf_failures (s v : State) (sl : Slot) (m : Measurement) :
    (s.withPortUnitOf v).failures sl m = s.failures sl m := rfl
@[simp] theorem State.withPortUnitOf_measuredField (s v : State) (id : Nat) :
    (s.withPortUnitOf v).measuredField id = s.measuredField id := rfl
@[simp] theorem State.withPortUnitOf_slotStateField (s v : State) (id : Nat) :
    (s.withPortUnitOf v).slotStateField id = s.slotStateField id := rfl
@[simp] theorem State.withPortUnitOf_edgeFlagsField (s v : State) :
    (s.withPortUnitOf v).edgeFlagsField = s.edgeFlagsField := rfl
@[simp] theorem State.withPortUnitOf_openTime (s v : State) (r : Run) :
    (s.withPortUnitOf v).openTime r = s.openTime r := rfl

/-! ### The operations on the records leave the Port Unit alone -/

@[simp] theorem State.withPortUnitOf_deriveOutputs (s v : State) :
    (s.withPortUnitOf v).deriveOutputs = (s.deriveOutputs).withPortUnitOf v := rfl
@[simp] theorem State.withPortUnitOf_raise (s v : State) (x : Reason) :
    (s.withPortUnitOf v).raise x = (s.raise x).withPortUnitOf v := rfl
@[simp] theorem State.withPortUnitOf_putFlag (s v : State) (g : FaultFlag) (b : Bool) :
    (s.withPortUnitOf v).putFlag g b = (s.putFlag g b).withPortUnitOf v := rfl
@[simp] theorem State.withPortUnitOf_updateSlot (s v : State) (k : Nat) (f : Slot → Slot) :
    (s.withPortUnitOf v).updateSlot k f = (s.updateSlot k f).withPortUnitOf v := rfl
@[simp] theorem State.withPortUnitOf_updateRun (s v : State) (k : Nat) (f : Run → Run) :
    (s.withPortUnitOf v).updateRun k f = (s.updateRun k f).withPortUnitOf v := rfl
@[simp] theorem State.withPortUnitOf_updateCourse (s v : State) (k : Nat) (f : Course → Course) :
    (s.withPortUnitOf v).updateCourse k f = (s.updateCourse k f).withPortUnitOf v := rfl
@[simp] theorem State.withPortUnitOf_updateWall (s v : State) (k : Nat) (f : Wall → Wall) :
    (s.withPortUnitOf v).updateWall k f = (s.updateWall k f).withPortUnitOf v := rfl
@[simp] theorem State.withPortUnitOf_updateFeature (s v : State) (k : Nat) (f : Feature → Feature) :
    (s.withPortUnitOf v).updateFeature k f = (s.updateFeature k f).withPortUnitOf v := rfl
@[simp] theorem State.withPortUnitOf_offer (s v : State) (x : Report) :
    (s.withPortUnitOf v).offer x = (s.offer x).withPortUnitOf v := by
  unfold State.offer; dsimp only; split <;> rfl
@[simp] theorem State.withPortUnitOf_report (s v : State) (x : Report) :
    (s.withPortUnitOf v).report x = (s.report x).withPortUnitOf v := by
  simp only [State.report, State.withPortUnitOf_putFlag, State.withPortUnitOf_offer, State.withPortUnitOf_flags]
  split <;> rfl
@[simp] theorem State.withPortUnitOf_referenceEvent (s v : State) (port : Port) (k : Option Nat) (a b : Nat) :
    (s.withPortUnitOf v).referenceEvent port k a b = (s.referenceEvent port k a b).withPortUnitOf v := by
  simp only [State.referenceEvent, State.withPortUnitOf_report, State.withPortUnitOf_params]
  split <;> rfl
@[simp] theorem State.withPortUnitOf_drainDone (s v : State) :
    (s.withPortUnitOf v).drainDone = (s.drainDone).withPortUnitOf v := rfl
@[simp] theorem State.withPortUnitOf_feedEmpty (s v : State) :
    (s.withPortUnitOf v).feedEmpty = (s.feedEmpty).withPortUnitOf v := by
  by_cases h : s.station.state = .draining <;> simp [State.feedEmpty, h]
@[simp] theorem State.withPortUnitOf_removeHead (s v : State) :
    (s.withPortUnitOf v).removeHead = (s.removeHead).withPortUnitOf v := by
  have : ({ s.withPortUnitOf v with queue := s.queue.tail } : State) =
    State.withPortUnitOf { s with queue := s.queue.tail } v := rfl
  unfold State.removeHead; simp only [State.withPortUnitOf_queue, this, State.withPortUnitOf_feedEmpty]; split <;> rfl
@[simp] theorem State.withPortUnitOf_place (s v : State) (id : Nat) (sl : Slot) :
    (s.withPortUnitOf v).place id sl = (s.place id sl).withPortUnitOf v := by
  simp only [State.place, State.withPortUnitOf_updateSlot, State.withPortUnitOf_removeHead,
    State.withPortUnitOf_updateRun, State.withPortUnitOf_siteTime, State.withPortUnitOf_profileOf]
@[simp] theorem State.withPortUnitOf_storeMeasurement (s v : State) (id : Nat) (m : Measurement) :
    (s.withPortUnitOf v).storeMeasurement id m = (s.storeMeasurement id m).withPortUnitOf v := rfl
@[simp] theorem State.withPortUnitOf_completionTest (s v : State) (e : Nat) :
    (s.withPortUnitOf v).completionTest e = (s.completionTest e).withPortUnitOf v := by
  cases hc : s.course e with
  | none => simp [State.completionTest, hc]
  | some c =>
    by_cases h : c.state = .active ∧ (s.courseSlots c).all (fun e => e.2.state = .verified)
    · simp only [State.completionTest, State.withPortUnitOf_course, hc]
      rw [if_pos (by simpa using h), if_pos h]
      rfl
    · simp only [State.completionTest, State.withPortUnitOf_course, hc]
      rw [if_neg (by simpa using h), if_neg h]
@[simp] theorem State.withPortUnitOf_verifySlot (s v : State) (id : Nat) (sl : Slot) :
    (s.withPortUnitOf v).verifySlot id sl = (s.verifySlot id sl).withPortUnitOf v := by
  simp only [State.verifySlot, State.withPortUnitOf_updateSlot, State.withPortUnitOf_completionTest]
@[simp] theorem State.withPortUnitOf_reject (s v : State) (id : Nat) (sl : Slot) (port : Port) (l : List Failure) :
    (s.withPortUnitOf v).reject id sl port l = (s.reject id sl port l).withPortUnitOf v := by
  simp only [State.reject, State.withPortUnitOf_updateSlot, State.withPortUnitOf_report,
    State.withPortUnitOf_capturedCourse]
@[simp] theorem State.withPortUnitOf_verify (s v : State) (id : Nat) (port : Port) :
    (s.withPortUnitOf v).verify id port = (s.verify id port).withPortUnitOf v := by
  simp only [State.verify, State.withPortUnitOf_slot, State.withPortUnitOf_failures, State.withPortUnitOf_verifySlot,
    State.withPortUnitOf_reject]
  split
  · rfl
  · split
    · rfl
    · split <;> simp [*]
@[simp] theorem State.withPortUnitOf_relink (s v : State) (w : Nat) (x : Option Nat) (k : Nat) :
    (s.withPortUnitOf v).relink w x k = (s.relink w x k).withPortUnitOf v := by
  cases x <;> rfl
@[simp] theorem State.withPortUnitOf_dropLoad (s v : State) :
    (s.withPortUnitOf v).dropLoad = (s.dropLoad).withPortUnitOf v := by
  unfold State.dropLoad; simp only [State.withPortUnitOf_load]; split <;> rfl

/-! ### Bodies that neither read nor write the Port Unit -/

/-- The body of a request neither reads nor writes the ports, the inbound queue and the request in service. -/
def IgnoresPortUnit (body : State → Reply × State) : Prop :=
  ∀ s v : State, body (s.withPortUnitOf v) = ((body s).1, (body s).2.withPortUnitOf v)

/-- The service of a request whose body ignores the Port Unit: the body's reply is the last response of the port, and
beside the Port Unit the state is the one the body leaves. -/
theorem serve_body (i : Instr) (h : Header) (body : State → Reply × State) (s : State) (hh : i.header = some h)
    (hs : s.serves i = true) (hb : IgnoresPortUnit body) :
    ∃ t, serve i body s = .next t ∧ Answered s i h t ((body s).2.withSummary h.port (body s).1) ∧
      t = (body s).2.withPortUnitOf t :=
  serve_answered i h body s _ _ hh hs (hb s)

theorem withWall_ignores (w : Nat) (body : Wall → State → Reply × State) (hb : ∀ r, IgnoresPortUnit (body r)) :
    IgnoresPortUnit (withWall w body) := by
  intro s v
  cases h : s.wall w with
  | none => simp [withWall, h, State.refuseNoRecord]
  | some r => simpa [withWall, h] using hb r s v

theorem withSlot_ignores (port : Port) (id : Nat) (body : Slot → State → Reply × State)
    (hb : ∀ sl, IgnoresPortUnit (body sl)) : IgnoresPortUnit (withSlot port id body) := by
  intro s v
  by_cases hr : slotCapacity ≤ id
  · simp [withSlot, hr]
  · cases h : s.slot id with
    | none => simp [withSlot, hr, h, State.refuseNoRecord]
    | some sl => simpa [withSlot, hr, h] using hb sl s v

theorem withCourse_ignores (w number : Nat) (body : Nat → Course → State → Reply × State)
    (hb : ∀ e c, IgnoresPortUnit (body e c)) : IgnoresPortUnit (withCourse w number body) := by
  intro s v
  by_cases hr : 3 < w ∨ 255 < number
  · simp [withCourse, hr]
  · cases h : s.wall w with
    | none => simp [withCourse, hr, h, State.refuseNoRecord]
    | some r =>
      cases hc : s.heldCourse w number with
      | none => simp [withCourse, hr, h, hc, State.refuseNoRecord]
      | some ec => simpa [withCourse, hr, h, hc] using hb ec.1 ec.2 s v

theorem withFeature_ignores (k : Nat) (body : Feature → State → Reply × State) (hb : ∀ f, IgnoresPortUnit (body f)) :
    IgnoresPortUnit (withFeature k body) := by
  intro s v
  unfold withFeature
  split
  · rfl
  · cases h : s.feature k with
    | none => simp [h, State.refuseNoRecord]
    | some f => simpa [h] using hb f s v

/-- A choice between two bodies on conditions that mean the same. -/
theorem ignores_ite {c d : Prop} [Decidable c] [Decidable d] {v : State} {x y a b : Reply × State} (h : c ↔ d)
    (hx : x = (a.1, a.2.withPortUnitOf v)) (hy : y = (b.1, b.2.withPortUnitOf v)) :
    (if c then x else y) = ((if d then a else b).1, (if d then a else b).2.withPortUnitOf v) := by
  by_cases hd : d
  · simp [hd, h.mpr hd, hx]
  · simp [hd, mt h.mp hd, hy]

/-! ### The bodies, one by one -/

theorem wallOpen_ignores (w : Nat) (length : Int) : IgnoresPortUnit (wallOpen w length) := by
  intro s v
  simp +instances only [wallOpen, State.withPortUnitOf_wall]
  split
  · rfl
  · split <;> rfl

theorem wallClose_ignores (w : Nat) : IgnoresPortUnit (wallClose w) := by
  intro s v
  simp +instances only [wallClose]
  split
  · rfl
  · refine withWall_ignores w _ (fun r s v => ?_) s v
    have : wallCloseRefusal w r (s.withPortUnitOf v) = wallCloseRefusal w r s := by
      simp +instances only [wallCloseRefusal, State.withPortUnitOf_chain]
      rfl
    rw [this]
    cases wallCloseRefusal w r s <;> simp <;> rfl

theorem wallRead_ignores (w start : Nat) : IgnoresPortUnit (wallRead w start) := by
  intro s v
  simp +instances only [wallRead, State.withPortUnitOf_wall, State.withPortUnitOf_chain]
  split
  · rfl
  · split <;> rfl

theorem featureAdd_ignores (w : Nat) (xa xb zSill zHead : Int) : IgnoresPortUnit (featureAdd w xa xb zSill zHead) := by
  intro s v
  simp +instances only [featureAdd]
  split
  · rfl
  · refine withWall_ignores w _ (fun r s v => ?_) s v
    split
    · rfl
    · simp +instances only [featureInsert, State.withPortUnitOf_builtHeight, State.withPortUnitOf_chain,
        State.withPortUnitOf_features, State.withPortUnitOf_relink]
      split
      · rfl
      · split
        · rfl
        · split <;> rfl

theorem featureDrop_ignores (k : Nat) : IgnoresPortUnit (featureDrop k) := by
  refine withFeature_ignores k _ (fun f s v => ?_)
  simp +instances only [State.withPortUnitOf_builtHeight, State.withPortUnitOf_wallOf, State.withPortUnitOf_before,
        State.withPortUnitOf_features, State.withPortUnitOf_relink]
  split
  · rfl
  · split <;> rfl

theorem lintelSet_ignores (k : Nat) (topZ bearing : Int) : IgnoresPortUnit (lintelSet k topZ bearing) := by
  intro s v
  simp +instances only [lintelSet]
  split
  · rfl
  · refine withFeature_ignores k _ (fun f s v => ?_) s v
    split
    · rfl
    · split <;> rfl

theorem configKind_ignores (k : Nat) (length height bedDepth cmin : Int) (lt : Option Int) :
    IgnoresPortUnit (configKind k length height bedDepth cmin lt) := fun _ _ =>
  ignores_ite Iff.rfl rfl (ignores_ite Iff.rfl rfl (ignores_ite Iff.rfl rfl rfl))

theorem configProfile_ignores (k : Nat) (jn jmin jmax bn : Int) (tOpen : Option Nat) :
    IgnoresPortUnit (configProfile k jn jmin jmax bn tOpen) := fun _ _ =>
  ignores_ite Iff.rfl rfl (ignores_ite Iff.rfl rfl (ignores_ite Iff.rfl rfl rfl))

theorem setParam_ignores (value lo hi : Int) (write : State → State)
    (hw : ∀ s v : State, write (s.withPortUnitOf v) = (write s).withPortUnitOf v) :
    IgnoresPortUnit (setParam value lo hi write) := by
  intro s v
  simp +instances only [setParam, hw]
  split <;> rfl

theorem configSawStep_ignores (value : Int) : IgnoresPortUnit (configSawStep value) := by
  intro s v
  have : sawStepRefusal value (s.withPortUnitOf v) = sawStepRefusal value s := rfl
  simp +instances only [configSawStep, this]
  split
  · rfl
  · split <;> rfl

theorem configMinimumLap_ignores (value : Int) : IgnoresPortUnit (configMinimumLap value) :=
  setParam_ignores _ _ _ _ fun _ _ => rfl

theorem configTolerance_ignores (parameter : Nat) (value : Int) : IgnoresPortUnit (configTolerance parameter value) := by
  intro s v
  unfold configTolerance
  repeat' split
  all_goals first | rfl | exact setParam_ignores _ _ _ _ (fun _ _ => rfl) s v

theorem configSetTime_ignores (value : Int) : IgnoresPortUnit (configSetTime value) :=
  setParam_ignores _ _ _ _ fun _ _ => rfl

theorem configDatumSkew_ignores (value : Int) : IgnoresPortUnit (configDatumSkew value) :=
  setParam_ignores _ _ _ _ fun _ _ => rfl

theorem configStrictReferences_ignores (value : Int) : IgnoresPortUnit (configStrictReferences value) :=
  setParam_ignores _ _ _ _ fun _ _ => rfl

theorem configEdgeSense_ignores (parameter : Nat) (value : Int) : IgnoresPortUnit (configEdgeSense parameter value) := by
  intro s v
  unfold configEdgeSense
  split
  · rfl
  · exact setParam_ignores _ _ _ _ (fun _ _ => rfl) s v

theorem configRead_ignores (table number : Nat) : IgnoresPortUnit (configRead table number) := by
  intro s v
  unfold configRead
  simp +instances only [State.refuseNoRecord, State.withPortUnitOf_referenceEvent, State.withPortUnitOf_kinds,
    State.withPortUnitOf_profiles, State.withPortUnitOf_kindInUse, State.withPortUnitOf_profileInUse,
    State.withPortUnitOf_paramValue, State.withPortUnitOf_sawFitted]
  split
  · split
    · rfl
    · split <;> rfl
  · split
    · split
      · rfl
      · split <;> rfl
    · split
      · split <;> rfl
      · rfl

theorem courseBegin_ignores (w kind profile runCount : Nat) : IgnoresPortUnit (courseBegin w kind profile runCount) := by
  intro s v
  refine ignores_ite Iff.rfl rfl (withWall_ignores w _ (fun r s v => ?_) s v)
  refine ignores_ite Iff.rfl rfl (ignores_ite Iff.rfl rfl (ignores_ite Iff.rfl rfl (ignores_ite Iff.rfl rfl ?_)))
  show (match (Table.unused s.courses 0 courseCapacity).head? with | none => _ | some entry => _) = _
  cases (Table.unused s.courses 0 courseCapacity).head? <;> rfl

/-- R30: the checks of a commit read no port. -/
theorem commitChecks_withPortUnitOf (s v : State) (r : Wall) (c : Course) (runs : List (Int × Int)) :
    commitChecks (s.withPortUnitOf v) r c runs = commitChecks s r c runs := by
  have h : ∀ plans, bedChecks (s.withPortUnitOf v) r c plans = bedChecks s r c plans := by
    intro plans
    have hb : ∀ below, (s.withPortUnitOf v).bedOn r below = s.bedOn r below := by
      intro below
      simp +instances only [State.bedOn, State.withPortUnitOf_chain]
      rfl
    simp +instances only [bedChecks, hb]
    rfl
  simp +instances only [commitChecks, h, State.withPortUnitOf_chain]
  rfl

theorem allocateRuns_withPortUnitOf (entry kind : Nat) (plans : List RunPlan) (runs ids : List Nat) (s v : State) :
    allocateRuns entry kind plans runs ids (s.withPortUnitOf v) =
      (allocateRuns entry kind plans runs ids s).withPortUnitOf v := by
  induction plans generalizing runs ids s with
  | nil => simp [allocateRuns]
  | cons p ps ih =>
    cases runs with
    | nil => simp [allocateRuns]
    | cons r rs => simp +instances only [allocateRuns]; rw [← ih]; rfl

theorem commit_ignores (entry : Nat) (runs : List (Int × Int)) : IgnoresPortUnit (fun s => commit s entry runs) := by
  intro s v
  simp +instances only [commit, commitChecks_withPortUnitOf, State.withPortUnitOf_course, State.withPortUnitOf_wall,
    State.withPortUnitOf_dropLoad]
  split
  · rfl
  · simp +instances only [allocate, allocateRuns_withPortUnitOf, State.withPortUnitOf_updateCourse,
      State.withPortUnitOf_updateWall, State.withPortUnitOf_runs, State.withPortUnitOf_slots]
    rfl

theorem runEntry_ignores (start stop : Int) : IgnoresPortUnit (runEntry start stop) := by
  intro s v
  simp +instances only [runEntry, State.withPortUnitOf_load]
  split
  · rfl
  · split
    · rfl
    · exact commit_ignores _ _ { s with load := _ } v

theorem courseAbandon_ignores : IgnoresPortUnit courseAbandon := by
  intro s v
  simp +instances only [courseAbandon, State.withPortUnitOf_load, State.withPortUnitOf_course,
    State.withPortUnitOf_dropLoad]
  split <;> rfl

theorem courseRetire_ignores (w number : Nat) : IgnoresPortUnit (courseRetire w number) :=
  withCourse_ignores w number _ (fun _ _ _ _ => ignores_ite Iff.rfl rfl
    (ignores_ite Iff.rfl rfl (ignores_ite Iff.rfl rfl rfl)))

theorem courseRead_ignores (w number : Nat) (order : Option Nat) : IgnoresPortUnit (courseRead w number order) := by
  refine withCourse_ignores w number _ (fun e c s v => ?_)
  simp +instances only [State.withPortUnitOf_courseField, State.withPortUnitOf_receivedField,
    State.withPortUnitOf_runField,
    State.withPortUnitOf_run]
  repeat' split
  all_goals rfl

theorem slotRead_ignores (id : Nat) : IgnoresPortUnit (slotRead id) :=
  withSlot_ignores _ id _ fun sl s v => by simp +instances only [State.withPortUnitOf_slotField]

theorem accept_ignores (id : Nat) : IgnoresPortUnit (accept id) := by
  refine withSlot_ignores _ id _ (fun sl s v => ?_)
  simp +instances only [State.withPortUnitOf_updateSlot, State.withPortUnitOf_completionTest,
    State.withPortUnitOf_courseStateField]
  split <;> rfl

theorem relay_ignores (id : Nat) : IgnoresPortUnit (relay id) := by
  refine withSlot_ignores _ id _ (fun sl s v => ?_)
  simp +instances only [State.withPortUnitOf_laterFed, State.withPortUnitOf_loadedBy, State.withPortUnitOf_updateSlot,
    State.withPortUnitOf_updateRun]
  split
  · rfl
  · split
    · rfl
    · split <;> rfl

theorem runSlack_ignores (w number order : Nat) : IgnoresPortUnit (runSlack w number order) := by
  intro s v
  simp +instances only [runSlack]
  split
  · rfl
  · refine withCourse_ignores w number _ (fun e c s v => ?_) s v
    simp +instances only [State.withPortUnitOf_slackField, State.withPortUnitOf_run]
    split <;> rfl

theorem flush_ignores : IgnoresPortUnit flush := by
  intro s v
  simp +instances only [flush, State.withPortUnitOf_inHand]
  split
  · rfl
  · rw [← State.withPortUnitOf_feedEmpty]
    rfl

theorem queueRead_ignores : IgnoresPortUnit queueRead := fun s v => by
  simp +instances only [queueRead, State.withPortUnitOf_reportedCandidate]
  rfl

theorem stationSet_ignores (w : Nat) (xLo xHi zHi : Int) : IgnoresPortUnit (stationSet w xLo xHi zHi) := by
  intro s v
  simp +instances only [stationSet, State.withPortUnitOf_station, State.withPortUnitOf_filters,
    State.withPortUnitOf_stationField]
  split
  · rfl
  · split
    · rfl
    · split
      · rfl
      · refine withWall_ignores w _ (fun r s v => ?_) s v
        split <;> rfl

theorem stationMove_ignores : IgnoresPortUnit stationMove := by
  intro s v
  simp only [stationMove, State.withPortUnitOf_station]
  cases s.station.state
  case parked => exact ignores_ite Iff.rfl rfl rfl
  all_goals rfl

theorem stationRead_ignores : IgnoresPortUnit stationRead := fun _ _ => rfl

theorem status_ignores : IgnoresPortUnit status := fun _ _ => rfl

theorem acknowledge_ignores (set : BitVec 16) : IgnoresPortUnit (acknowledge set) := by
  intro s v
  simp +instances only [acknowledge]
  split <;> rfl

theorem enable_ignores (set : BitVec 16) : IgnoresPortUnit (enable set) := by
  intro s v
  simp +instances only [enable]
  split <;> rfl

theorem clearFault_ignores (n : Nat) : IgnoresPortUnit (clearFault n) := by
  intro s v
  have h : ∀ flag, clearRefusal flag (s.withPortUnitOf v) = clearRefusal flag s := fun flag => by cases flag <;> rfl
  simp +instances only [clearFault, h, State.withPortUnitOf_putFlag]
  split
  · rfl
  · split <;> rfl

theorem captureRead_ignores (n : Nat) : IgnoresPortUnit (captureRead n) := by
  intro s v
  simp +instances only [captureRead]
  repeat' split
  all_goals rfl

theorem captureClear_ignores (n : Nat) : IgnoresPortUnit (captureClear n) := by
  intro s v
  simp +instances only [captureClear]
  repeat' split
  all_goals rfl

theorem next_ignores : IgnoresPortUnit next := by
  intro s v
  simp +instances only [next, nextAtHead, issue, State.withPortUnitOf_inHand, State.withPortUnitOf_nextHold,
    State.withPortUnitOf_headHold, State.withPortUnitOf_headField, State.withPortUnitOf_busyReply,
    State.withPortUnitOf_queue, State.withPortUnitOf_slot, State.withPortUnitOf_correction,
    State.withPortUnitOf_updateSlot, State.withPortUnitOf_orderField]
  repeat' split
  all_goals rfl

theorem placeReported_ignores (id : Nat) (sl : Slot) : IgnoresPortUnit (placeReported id sl) := fun s v => by
  simp +instances only [placeReported, State.withPortUnitOf_place, State.withPortUnitOf_verify,
    State.withPortUnitOf_slotStateField]

theorem placed_ignores (id : Nat) : IgnoresPortUnit (placed id) := by
  refine withSlot_ignores _ id _ (fun sl s v => ?_)
  cases sl.state <;> first | rfl | exact placeReported_ignores id sl s v

theorem decline_ignores (id : Nat) : IgnoresPortUnit (decline id) := by
  refine withSlot_ignores _ id _ (fun sl s v => ?_)
  simp +instances only [State.withPortUnitOf_updateSlot]
  split <;> rfl

theorem measure_ignores (id : Nat) (m : Measurement) : IgnoresPortUnit (measure id m) := by
  refine withSlot_ignores _ id _ (fun sl s v => ?_)
  simp +instances only [State.withPortUnitOf_storeMeasurement, State.withPortUnitOf_place, State.withPortUnitOf_verify,
    State.withPortUnitOf_measuredField]
  split <;> rfl

theorem absent_ignores (id : Nat) : IgnoresPortUnit (absent id) := by
  refine withSlot_ignores _ id _ (fun sl s v => ?_)
  simp +instances only [State.withPortUnitOf_updateSlot, State.withPortUnitOf_reject,
    State.withPortUnitOf_slotStateField]
  split <;> rfl

theorem datum_ignores (ox oy oz skew : Int) : IgnoresPortUnit (datum ox oy oz skew) := by
  intro s v
  refine ignores_ite Iff.rfl rfl ?_
  simp only [State.withPortUnitOf_inHand]
  cases s.inHand
  case some => rfl
  cases List.find? offsetOut [ox, oy, oz]
  case some => rfl
  exact ignores_ite Iff.rfl rfl rfl

theorem assign_ignores (id : Nat) (sl : Slot) (gauged : Int) : IgnoresPortUnit (assign id sl gauged) := by
  intro s v
  have hs : ∀ s : State, settleCut id sl (s.withPortUnitOf v) =
      ((settleCut id sl s).1, (settleCut id sl s).2.1, (settleCut id sl s).2.2.withPortUnitOf v) := by
    intro s
    simp +instances only [settleCut, State.withPortUnitOf_runOf, State.withPortUnitOf_closerCut,
      State.withPortUnitOf_updateSlot,
      State.withPortUnitOf_updateRun]
    repeat' split
    all_goals rfl
  simp +instances only [assign, State.withPortUnitOf_updateSlot, State.withPortUnitOf_generation, hs]
  rfl

theorem pick_ignores (kind : Nat) (gauged : Int) : IgnoresPortUnit (pick kind gauged) := by
  intro s v
  have ha : ∀ id sl, assign id sl gauged (s.withPortUnitOf v) =
      ((assign id sl gauged s).1, (assign id sl gauged s).2.withPortUnitOf v) :=
    fun id sl => assign_ignores id sl gauged s v
  simp +instances only [pick, ha, State.withPortUnitOf_station, State.withPortUnitOf_flags, State.withPortUnitOf_queue,
    State.withPortUnitOf_candidate, State.withPortUnitOf_kind, State.withPortUnitOf_stationField]
  repeat' split
  all_goals rfl

theorem sequenceFault_ignores (slot : Nat) : IgnoresPortUnit (sequenceFault slot) := fun s v => by
  simp +instances only [sequenceFault, State.withPortUnitOf_report, State.withPortUnitOf_expectedSlot,
    State.withPortUnitOf_slot,
    State.withPortUnitOf_capturedCourse]

theorem delivered_ignores (generation : Byte) (slot : Nat) : IgnoresPortUnit (delivered generation slot) := by
  intro s v
  have h := sequenceFault_ignores slot s v
  simp +instances only [delivered, h, State.withPortUnitOf_generation, State.withPortUnitOf_queue]
  repeat' split
  all_goals rfl

end Sys2Proof.Machine
end

