-- ==== Sys2Proof/Tests/Slice0.lean ====
section
/-! SUPPORT. Tests. The first part refuses one ill-formed command for each check of WellFormed. The second takes figures
from the spec's worked examples, each named by its section. The third shows, for each statement with hypotheses, a state
and operands that meet all of them together. -/

namespace Sys2Proof.Tests

open Sys2Proof.Machine

/-! ### Form -/

theorem test_form_u8 : (Instr.wallClose 0 256).wellFormed = false := by decide
theorem test_form_u16 : (Instr.slotRead 0 65536).wellFormed = false := by decide
theorem test_form_u32 : (Instr.configProfile 0 0 100 60 140 30 (some 4294967296)).wellFormed = false := by decide
theorem test_form_s16 : (Instr.datum 0 0 0 0 32768).wellFormed = false := by decide
theorem test_form_s24 : (Instr.wallOpen 0 0 (-8388609)).wellFormed = false := by decide
theorem test_form_s32 : (Instr.configParamSetTime 0 2147483648).wellFormed = false := by decide
theorem test_form_joint : (Instr.configProfile 0 0 (-1) 60 140 30 none).wellFormed = false := by decide
theorem test_form_tolerance : (Instr.configParamTolerance 0 8 0).wellFormed = false := by decide
theorem test_form_sense : (Instr.configParamEdgeSense 0 10 0).wellFormed = false := by decide
theorem test_form_gauged : (Instr.pick 0 0 65536).wellFormed = false := by decide
theorem test_form_run : (Instr.openJointExpiry 128).wellFormed = false := by decide
theorem test_form_low_pulse : (Instr.linkReset 20000).wellFormed = false := by decide
theorem test_form_bytes : (Instr.frameReceived .p []).wellFormed = false := by decide

/-! ### The site of the worked examples (sections 1.7.2, 2.4.1, 2.7.1 and 4.6) -/

/-- The result of a step. -/
def after (o : Host.Outcome State Fault Refusal) : State :=
  match o with
  | .next t => t
  | .fault _ => State.reset
  | .refused _ => State.reset

/-- The last response in a port's transmit queue. -/
def answered (o : Host.Outcome State Fault Refusal) (port : Port) : Option Reply :=
  (((after o).ports.get port).transmit.getLast?).map Response.reply

def wall0 : Wall := { length := 27453, chainHead := 0, nextCourse := 1, baseCourse := 0, settledTop := 0 }
def kind0 : Kind := { length := 2300, height := 700, bedDepth := 1000, cmin := 600, lt := 30 }
def profile0 : Profile := { jn := 100, jmin := 60, jmax := 140, bn := 30, tOpen := 90000 }
def course0 : Course :=
  { state := .active, wall := 0, number := 0, kind := 0, profile := 0, baseZ := 30, runCount := 1, runIds := some [0] }
def run0 : Run :=
  { course := 0, order := 0, start := 0, stop := 27453, n := 12, firstSlot := 0, slotIds := List.range 12
    closerLength := some 1050, closerCommitted := false, openJoint := none }

/-- The gauged lengths of section 4.6. -/
def gauges : List Int := [2300, 2302, 2297, 2301, 2299, 2304, 2298, 2301, 2299, 2302, 2300, 2296]

def left (i : Nat) : Int := 2400 * i + min i 3

/-- Slot `i` of run 0, laid on its planned face at site time 0, as far as its state says. -/
def brick (i : Nat) (state : SlotState) : Slot :=
  { course := 0, run := 0, index := i, kind := 0, closer := i = 11, plannedLeft := left i
    plannedJoint := if i = 0 then none else some (if i ≤ 3 then 101 else 100)
    supports := [], lintelSupported := false, state := state, cutLength := none
    generation := if state = .fed ∨ state = .issued ∨ state = .uncertain then some 0 else none
    gauged := if state = .planned then none else gauges[i]?
    targetLeft := if state.hasFace then some (left i) else none
    targetJoint := if state.hasFace ∧ i ≠ 0 then some 100 else none
    placedTime := if state = .placed ∨ state = .verified ∨ state = .rejected then some 0 else none
    measurement := if state = .verified ∨ state = .rejected
      then some { xRight := left i + 2300, yOff := 0, zTop := 730 } else none
    rejectReasons := if state = .rejected then [.position] else []
    reapply := false, predicted := false, clamped := false, cold := false, accepted := false }

/-- The first slots in the states given, the others PLANNED. -/
def bricks (states : List SlotState) : List (Nat × Slot) :=
  (List.range 12).map fun i => (i, brick i (states[i]?.getD .planned))

def entry (slot : Nat) (position : Position) : Entry :=
  { generation := 0, slot := slot, kind := 0, gauged := gauges[slot]?.getD 2300, cutLength := none, position := position }

def asserted : Filter := { raw := true, level := true, changedAt := 0 }

/-- Wall 0 with course 0 over it and the station PARKED before it, at site time 100 000. -/
def site (states : List SlotState) (queue : List Entry) : State :=
  { State.reset with
    walls := [(0, wall0)], kinds := [(0, kind0)], profiles := [(0, profile0)], courses := [(0, course0)]
    runs := [(0, run0)], slots := bricks states, queue := queue, siteTime := 100000, sawFitted := true
    station :=
      { state := .parked, wall := 0, xLo := 0, xHi := 27453, zHi := 5000, ox := 4000, oy := -8600, oz := -450, skew := 12
        datumValid := true }
    filters := { State.reset.filters with arm := asserted, parked := asserted } }

/-- Course 1 over it, one closer on slot 0, as run order 0 of section 2.7.1. -/
def stacked (s : State) (state : SlotState) : State :=
  { s with
    walls := [(0, { wall0 with nextCourse := 2 })]
    courses := s.courses ++ [(1, { course0 with number := 1, baseZ := 760, runIds := some [1] })]
    runs := s.runs ++
      [(1, { run0 with
        course := 1, stop := 1100, n := 1, firstSlot := 12, slotIds := [12], closerLength := some 1100
        closerCommitted := true })]
    slots := s.slots ++
      [(12, { brick 0 state with course := 1, run := 1, closer := true, cutLength := some 1100, supports := [0] })] }

/-! ### Worked examples -/

/-- R183: the check value. -/
theorem test_crc_check_value : crc [0x31, 0x32, 0x33, 0x34, 0x35, 0x36, 0x37, 0x38, 0x39] = 0x29B1 := by
  decide +kernel

/-- R189: WALL OPEN (2, 48 000) on the wire: 48 000 is 00 BB 80. -/
theorem test_wall_open_payload : decodeRequest .p 7 1 [0x02, 0x00, 0xBB, 0x80] = some (.wallOpen 7 2 48000) := by decide

/-- R191: PICK (0, 2 300) and DELIVERED (1/258): 2 300 is 08 FC. -/
theorem test_feeder_payloads :
    decodeRequest .f 7 65 [0x00, 0x08, 0xFC] = some (.pick 7 0 2300) ∧
      decodeRequest .f 7 66 [0x01, 0x01, 0x02] = some (.delivered 7 1 258) := by decide

/-- R192: DATUM (−8 000, −8 640, −470, 21). -/
theorem test_datum_payload :
    decodeRequest .t 7 51 [0xFF, 0xE0, 0xC0, 0xFF, 0xDE, 0x40, 0xFF, 0xFE, 0x2A, 0x00, 0x15] =
      some (.datum 7 (-8000) (-8640) (-470) 21) := by decide

/-- Section 2.4.1: n and the planned closer length for each D of the table. -/
theorem test_run_solve_cases :
    [26300, 27453, 26500, 26800, 1800, 5000].map (solveCase kind0 profile0 5) =
      [.ok (11, none), .ok (12, some 1050), .ok (11, none), .ok (12, some 600), .ok (1, some 1800),
        .error .runUnsolvable] := by decide

/-- Section 2.4.1: the planned faces and joints of the run of D = 27 453. -/
theorem test_run_solve_faces :
    ((solveRun kind0 profile0 5 true 0 0 27453).toOption.map fun p => p.slots.map fun q => (q.left, q.joint)) =
      some ((List.range 12).map fun i => ((brick i .planned).plannedLeft, (brick i .planned).plannedJoint)) := by decide

/-- Section 2.7.1: the second run of course 1, with its supports, and the lap refusal of the single run. -/
theorem test_course_over_course :
    ((commitChecks (site [] []) wall0 { course0 with state := .loading, number := 1, baseZ := 760 }
        [(0, 1100), (1200, 27453)]).toOption.map fun l => l.map fun p => p.slots.map fun q => q.supports) =
      some [[[0]], [[0, 1], [1, 2], [2, 3], [3, 4], [4, 5], [5, 6], [6, 7], [7, 8], [8, 9], [9, 10], [10, 11]]] ∧
    commitChecks (site [] []) wall0 { course0 with state := .loading, number := 1, baseZ := 760 } [(0, 27453)] =
      .error (Reply.refusedWith .lapShort [0, 1]) := by decide +kernel

/-- Section 2.7.2: a slot beside an opening, borne by a lintel whose top lies 10 from the course's, and refused at 30. -/
theorem test_lintel_bears :
    (supportSlot { slots := [(7, (7600, 9900))], covered := [(0, 9900), (21200, 27453)], lintels := [(8500, 22501)] } 0
        { index := 1, left := 9603, length := 2300, joint := none, closer := false, supports := []
          lintelSupported := false }).toOption.map (fun p => (p.supports, p.lintelSupported)) = some ([7], true) ∧
    lintelSpans [(5, { wall := 1, xa := 10000, xb := 21000, zSill := 0, zHead := 20000
                       lintel := some { topZ := 22500, bearing := 1500 }, next := 0 })] 22490 20 = [(8500, 22501)] ∧
    lintelSpans [(5, { wall := 1, xa := 10000, xb := 21000, zSill := 0, zHead := 20000
                       lintel := some { topZ := 22520, bearing := 1500 }, next := 0 })] 22490 20 = [] := by decide

/-- Section 1.3.1, steps 4 and 5. -/
def wall2 : State :=
  { State.reset with
    walls := [(2, { length := 48000, chainHead := 1, nextCourse := 0, baseCourse := 0, settledTop := 0 })]
    features :=
      [(1, { wall := 2, xa := 6000, xb := 18000, zSill := 9000, zHead := 21000, lintel := none, next := 2 }),
        (2, { wall := 2, xa := 30000, xb := 39000, zSill := 0, zHead := 21000, lintel := none, next := 0 })] }

theorem test_feature_add_between :
    ((after (exec (.featureAdd 0 2 21000 27000 9000 21000) wall2)).features.map fun e => (e.1, e.2.next)) =
      [(1, 3), (2, 0), (3, 2)] := by decide

theorem test_feature_add_overlap :
    answered (exec (.featureAdd 0 2 16000 20000 20000 24000) wall2) .p = some (Reply.refusedWith .overlap [1]) := by decide

/-- R6, R189: the wall's record, the count, the features from the position asked for, and the position last. -/
theorem test_wall_read_order :
    answered (exec (.wallRead 0 2 1) wall2) .p =
      some (Reply.okWith ([1, 0x00, 0xBB, 0x80, 0, 0, 0, 0, 0, 2] ++
        (wall2.chain { length := 48000, chainHead := 1, nextCourse := 0, baseCourse := 0, settledTop := 0 }).tail.flatMap
          featureField ++ [1])) := by decide +kernel

/-- Section 1.7.2: a saw step of 7 does not divide Cmin. -/
theorem test_saw_step_7 :
    answered (exec (.configParamSawStep 0 7) { site [] [] with courses := [] }) .p =
      some (Reply.refusedWith .sawStep [0]) := by decide

/-- Section 4.6.4: slot 5, with slot 4 measured at 11 930 and the queue holding slots 5 to 10. -/
def drifted : State :=
  { site [.verified, .verified, .verified, .verified, .verified, .fed, .fed, .fed, .fed, .fed, .fed] [] with
    slots := Table.update
      (bricks [.verified, .verified, .verified, .verified, .verified, .fed, .fed, .fed, .fed, .fed, .fed]) 4
      fun sl => { sl with measurement := some { xRight := 11930, yOff := 0, zTop := 730 } }
    queue := entry 5 .atGripper :: [6, 7, 8, 9, 10].map fun i => entry i .onBelt }

theorem test_correction_slot_5 :
    drifted.correction (brick 5 .fed) =
      { targetLeft := 12026, targetJoint := some 96, predicted := false, clamped := false } := by decide

/-- Section 4.6.5: the closer cut, with slot 5 measured at 14 334. -/
def beforeCut : State :=
  { site [] [] with
    slots := Table.update
      (bricks [.verified, .verified, .verified, .verified, .verified, .verified, .fed, .fed, .fed, .fed, .fed]) 5
      fun sl => { sl with measurement := some { xRight := 14334, yOff := 0, zTop := 730 } }
    queue := entry 6 .atGripper :: [7, 8, 9, 10].map fun i => entry i .onBelt }

theorem test_closer_cut :
    beforeCut.rawCut (brick 11 .planned) = 1019 ∧ beforeCut.closerCut (brick 11 .planned) = (1015, .none) := by decide

theorem test_pick_commits_the_closer :
    let t := after (exec (.pick 0 0 2296) beforeCut)
    (t.slot 11).map Slot.cutLength = some (some 1015) ∧ (t.run 0).map Run.closerCommitted = some true ∧
      t.queue.length = 6 := by decide +kernel

/-- Section 5.9: the brick of 2 338 is out of length by 38. -/
theorem test_pick_length_out :
    answered (exec (.pick 0 0 2338) (site [.fed, .fed] [entry 0 .onBelt, entry 1 .onBelt])) .f =
      some (Reply.refusedWith .lengthOut [0, 2, 0, 0, 38, 0, 2, 1, 0, 0, 0]) := by decide +kernel

/-- Section 5.9: the flush at 20 100 and the brick with the old tag at 21 600. -/
theorem test_flush_and_discard :
    let t := after (exec (.flush 0) (site [.placed, .fed, .fed] [entry 1 .onBelt, entry 2 .onBelt]))
    (t.generation, t.queue, (t.slot 1).map Slot.state, (t.slot 2).map Slot.gauged) = (1, [], some .planned, some none) ∧
      (answered (exec (.delivered 0 0 1) t) .f).map Reply.answer = some .discard := by decide +kernel

/-- Section 6.7: the order of slot 8: tx 15 236, ty 8 600, tz 480, joint 100, length 2 299, re-apply clear, datum valid,
joint present, ISSUED. -/
def cold : State :=
  { site [] [] with
    slots := Table.update (Table.update
      (bricks [.verified, .verified, .verified, .verified, .verified, .verified, .verified, .verified, .fed, .fed, .fed,
        .fed]) 7 fun sl => { sl with measurement := some { xRight := 19136, yOff := 0, zTop := 730 } })
      11 fun sl => { sl with cutLength := some 1015 }
    queue := entry 8 .atGripper :: [9, 10, 11].map fun i => entry i .onBelt }

theorem test_place_order :
    answered (exec (.next 0) cold) .a =
      some (Reply.okWith
        [0x00, 0x08, 0x00, 0x00, 0x3B, 0x84, 0x00, 0x21, 0x98, 0x00, 0x01, 0xE0, 0x64, 0x08, 0xFB, 0x30, 0x03]) := by
  decide +kernel

/-- Section 6.7: the expiry finds slot 8 ISSUED. -/
theorem test_expiry_makes_cold :
    let s := { site [] [] with
      slots := bricks [.verified, .verified, .verified, .verified, .verified, .verified, .verified, .verified, .issued]
      runs := [(0, { run0 with openJoint := some { index := 7, deadline := 390000 } })], siteTime := 390000 }
    let t := after (exec (.openJointExpiry 0) s)
    (t.slot 8).map Slot.cold = some true ∧ (t.run 0).bind Run.openJoint = none := by decide +kernel

/-- Section 7.6: the held measurement of the closer fails HEIGHT and END. -/
def closerHeld : State :=
  { site [] [] with
    slots := Table.update (Table.update
      (bricks [.verified, .verified, .verified, .verified, .verified, .verified, .verified, .verified, .verified, .verified,
        .verified, .issued]) 10 fun sl => { sl with measurement := some { xRight := 26393, yOff := 0, zTop := 730 } })
      11 fun sl => { sl with
        cutLength := some 1015, targetLeft := some 26453, targetJoint := some 60, clamped := true
        measurement := some { xRight := 27498, yOff := 9, zTop := 752 } }
    queue := [entry 11 .atGripper], siteTime := 500400 }

theorem test_closer_rejected :
    let t := after (exec (.placed 0 11) closerHeld)
    (t.slot 11).map Slot.rejectReasons = some [.height, .endFace] ∧ t.queue = [] ∧
      t.geometryCapture = some
        { cls := .geometry, severity := 5, time := 500400, slot := some 11
          course := some { entry := 0, wall := 0, number := 0 }, port := some .a, detail := 22 } ∧
      answered (exec (.placed 0 11) closerHeld) .a = some (Reply.plain .ok [7]) := by decide +kernel

/-- Section 7.6: ACCEPT of the last slot completes the course. -/
theorem test_accept_completes :
    let s := site (List.replicate 11 .verified ++ [.rejected]) []
    ((after (exec (.accept 0 11) s)).course 0).map Course.state = some .complete ∧
      answered (exec (.accept 0 11) s) .p = some (Reply.okWith [3]) := by decide +kernel

/-- Section 8.9: the PLACED of the last entry ends the drain. -/
theorem test_drain_done :
    let s := site [.verified, .verified, .verified, .verified, .verified, .issued] [entry 5 .atGripper]
    let t := after (exec (.placed 0 5) { s with station := { s.station with state := .draining } })
    t.station.state = .moving ∧ t.station.datumValid = false ∧ t.reasons = Reason.drained.bit ∧
      (t.run 0).bind Run.openJoint = some { index := 5, deadline := 190000 } := by decide +kernel

/-- Section 8.9: a skew of 64 beyond 50. -/
theorem test_datum_skew :
    answered (exec (.datum 0 (-8000) (-8640) (-470) 64) (site [] [])) .t =
      some (Reply.refusedWith .datumSkew [0, 64, 0, 50]) := by decide

/-- Section 9.6: a tag not at the head is a SEQUENCE fault; CLEAR FAULT waits for the queue to empty. -/
theorem test_sequence_fault :
    let t := after (exec (.delivered 0 0 5) (site [.fed, .fed] [entry 0 .onBelt, entry 1 .onBelt]))
    t.flags.sequence = true ∧ t.attn = true ∧ t.haltReq = true ∧
      t.processCapture.map (fun c => (c.cls, c.severity, c.detail)) = some (.sequence, 4, 0) ∧
      answered (exec (.clearFault 0 1) t) .p = some (Reply.refusedWith .queueNotEmpty [2]) := by decide +kernel

/-- Section 10.1.1: across the wrap, the age at 5 000 is 12 296. -/
theorem test_wrap :
    { site [] [] with siteTime := 5000 }.stillSetting { brick 0 .placed with placedTime := some 4294960000 } = 17704 := by
  decide

/-- Section 10.7: the wind falls after 10 ms, against a falling sense, with LINE_WIND enabled. -/
theorem test_wind_falls :
    let s := { site [] [] with
      siteTime := 930010, enables := Reason.lineWind.bit, senses := { State.reset.senses with wind := .falling }
      filters := { State.reset.filters with wind := { raw := false, level := true, changedAt := 930000 } } }
    let t := after (exec .windHoldEdge s)
    t.filters.wind.level = false ∧ t.isRaised .lineWind = true ∧ t.attn = true := by decide

/-- Section 10.7: the link reset keeps the slot and the flags and closes the load. -/
theorem test_link_reset :
    let s := { site [.issued] [entry 0 .atGripper] with
      resetN := false, courses := [(0, course0), (1, { course0 with state := .loading, number := 1, runIds := none })]
      load := some { entry := 1, expected := 1, received := [], deadline := 0 }, inbound := [⟨.flush 1, 0⟩] }
    let t := after (exec (.linkReset 6000) s)
    t.slots = s.slots ∧ t.inbound = [] ∧ t.load = none ∧ t.courses = [(0, course0)] ∧ t.siteTime = s.siteTime := by
  decide +kernel

/-- Section 11.7: services 1 and 5. -/
theorem test_arbiter :
    choose [⟨.next 1, 0⟩, ⟨.absent 2 0, 0⟩, ⟨.flush 3, 0⟩] = some (.next 1, [⟨.absent 2 0, 0⟩, ⟨.flush 3, 1⟩]) ∧
      choose [⟨.flush 3, 4⟩, ⟨.absent 2 0, 0⟩] = some (.flush 3, [⟨.absent 2 0, 0⟩]) := by decide

/-- R180: what the part finds at the release. -/
theorem test_reset_release :
    after (exec (.powerUpRelease false) (after (exec .powerUp (site [.issued] [entry 0 .atGripper])))) =
      { State.reset with filters := { State.reset.filters with arm := asserted, parked := asserted } } := by decide +kernel

/-! ### Witnesses: a state and operands that meet all the hypotheses of a statement together -/

/-- RequestsArrive: each of the four ways in which a request finds its port. -/
theorem test_witness_arrive :
    ((Instr.next 7).header = some ⟨.a, 7, 33⟩ ∧ State.reset.hold = .running ∧ State.reset.serving = none ∧
      State.reset.inbound = [] ∧ (State.reset.ports.get .a).outstanding = false) ∧
    (let s := { State.reset with serving := some (.flush 1) };
      s.serving ≠ none ∧ s.serving ≠ some (.next 7) ∧ s.isWaiting (.next 7) = false ∧
        (s.ports.get .a).outstanding = false) ∧
    (let s := { State.reset with ports := State.reset.ports.put .a ⟨.hunt, true, some 6, []⟩ };
      s.serving ≠ some (.next 7) ∧ s.isWaiting (.next 7) = false ∧ (s.ports.get .a).outstanding = true) ∧
    (let s := { State.reset with serving := some (.flush 1), inbound := [⟨.next 7, 0⟩] };
      s.serving ≠ some (.next 7) ∧ s.isWaiting (.next 7) = true) := by decide

/-- EveryCommandEndsInANextState: a held part and a command that waits for its release. -/
theorem test_witness_held :
    ({ State.reset with hold := .byResetN } : State).hold ≠ .running ∧ actsWhileHeld (.flush 0) = false := by decide

/-- ResponseSentFreesThePort: a response that answers the request, and an OVERRUN answer. -/
theorem test_witness_sent :
    (let s := { State.reset with ports := State.reset.ports.put .p ⟨.hunt, true, some 6, [⟨6, 20, Reply.okay⟩]⟩ };
      s.hold = .running ∧ (s.ports.get .p).transmit = [⟨6, 20, Reply.okay⟩]) ∧
    (let s := { State.reset with ports := State.reset.ports.put .p ⟨.hunt, true, some 6, [⟨7, 20, Reply.plain .overrun [6]⟩]⟩ };
      s.hold = .running ∧ (s.ports.get .p).transmit ≠ []) ∧
    (State.reset.hold = .running ∧ (State.reset.ports.get .p).transmit = []) := by decide

/-- RequestsArrive: room for an OVERRUN answer with 2 responses, with 3 of which one closes the request, and none with 3
OVERRUN answers or with 4 responses. -/
theorem test_witness_overrun_room :
    let late : Response := ⟨7, 33, Reply.plain .overrun [6]⟩
    let closing : Response := ⟨6, 33, Reply.okay⟩
    let held := fun l : List Response =>
      { State.reset with ports := State.reset.ports.put .a ⟨.hunt, true, some 6, l⟩ }
    let grows := fun l : List Response =>
      ((after (exec (.next 8) (held l))).ports.get .a).transmit.length = l.length + 1
    grows [late, late] ∧ grows [late, closing, late] ∧ ¬ grows [late, late, late] ∧
      ¬ grows [late, closing, late, late] ∧ (held []).serving ≠ some (.next 8) := by decide

/-- R183, R187: the frames of a WAIT WIND answer to NEXT and of a REFUSED NOT_REJECTED answer to ACCEPT with three bytes more,
by hand calculation. -/
theorem test_response_frame :
    Response.frame ⟨7, 33, Reply.waitFor .wind []⟩ = [0xA5, 7, 161, 2, 2, 46, 0x27, 0xB4] ∧
      Response.frame ⟨255, 17, Reply.refusedWith .notRejected [1, 2, 3]⟩ =
        [0xA5, 255, 145, 5, 6, 30, 1, 2, 3, 0xD7, 0xDA] := by decide +kernel

/-- R64 and log 4: the milliseconds remaining right after the joint is set, one before its deadline, at it and after it,
across the wrap of the site time. -/
theorem test_joint_remaining :
    let left := fun now : Time => ({ State.reset with siteTime := now } : State).jointRemaining 90000 ⟨3, 40000⟩
    left (0 - 50000) = 90000 ∧ left 39999 = 1 ∧ left 40000 = 0 ∧ left 40001 = 0 := by decide

/-- ArbiterPassesThePlannerFourTimes: passed over 0 times and 4 times, with an arm request before and behind. -/
theorem test_witness_arbiter :
    (let s := { State.reset with inbound := [⟨.next 1, 0⟩, ⟨.flush 3, 0⟩] };
      s.serving = none ∧ s.inbound.filter Waiting.isPlanner = [⟨.flush 3, 0⟩]) ∧
    (let s := { State.reset with inbound := [⟨.flush 3, 4⟩, ⟨.next 1, 0⟩] };
      s.serving = none ∧ s.inbound.filter Waiting.isPlanner = [⟨.flush 3, 4⟩]) ∧
    ((⟨.flush 3, 4⟩ : Waiting).isPlanner = true ∧ (⟨.next 1, 0⟩ : Waiting).isPlanner = false ∧
      (State.reset.serving = none ∧ State.reset.inbound = []) ∧
      ({ State.reset with inbound := [⟨.flush 3, 3⟩] ++ ⟨.next 1, 0⟩ :: [] } : State).inbound =
        [⟨.flush 3, 3⟩, ⟨.next 1, 0⟩]) := by decide

/-- WellFormedRequestsAreDecoded and FrameOfARequestArrives: the frame of DATUM with its least and greatest operands. -/
theorem test_witness_frame :
    (Instr.datum 255 (-8388608) 8388607 0 (-32768)).wellFormed = true ∧
      (Instr.datum 255 (-8388608) 8388607 0 (-32768)).header = some ⟨.t, 255, 51⟩ ∧
      ((Instr.datum 255 (-8388608) 8388607 0 (-32768)).frame.map List.length) = some 17 ∧
      State.reset.hold = .running ∧ (State.reset.ports.get .t).receiver = .hunt := by decide +kernel

/-- BadFramesAreDropped: a payload of no byte and of 64, each with a CRC of 0; a LEN of 65; a code of no port, a code of
another port, and a LEN one off. -/
theorem test_witness_bad_frame :
    State.reset.hold = .running ∧ (State.reset.ports.get .p).receiver = .hunt ∧
      (0 : BitVec 16) ≠ crc [1, 2, 0] ∧ (List.replicate 64 (0 : Byte)).length ≤ 64 ∧
      (0 : BitVec 16) ≠ crc (1 :: 2 :: BitVec.ofNat 8 (List.replicate 64 (0 : Byte)).length :: List.replicate 64 0) ∧
      64 < (65 : Byte).toNat ∧ ([] : List Byte).length ∉ fieldLengths .p 31 ∧ ([] : List Byte).length ∉ fieldLengths .p 33 ∧
      [(0 : Byte)].length ∉ fieldLengths .p 20 := by
  decide +kernel

/-- A site at work, with a course that loads, a brick in the arm's hands, and a command to take. -/
def working : State :=
  { site [.issued, .fed] [entry 0 .atGripper, entry 1 .onBelt] with
    pending := [.placed 1 0]
    courses := [(0, course0), (1, { course0 with state := .loading, number := 1, runIds := none })]
    load := some { entry := 1, expected := 1, received := [], deadline := 105000 } }

/-- OutputsFollowReasonsAndFlags, and the five statements about invariants. -/
theorem test_witness_step :
    working.outputsAgree ∧ working.tablesCanonical ∧ working.queueInForm ∧ working.oneInHand ∧
      working.loadNamesLoading ∧ working.numbersInOrder ∧ working.portsInForm ∧ working.RecordsLinked ∧
      working.queueInStep ∧ ∃ t, step working = .next t :=
  ⟨by decide, by decide +kernel, by decide, by decide +kernel, by decide, by decide, by decide,
    ⟨by decide, by decide, by decide, by decide +kernel, by decide +kernel, by decide, by decide +kernel⟩,
    by decide +kernel, _, rfl⟩

/-- StepKeepsTheTablesCanonical: the openings of section 1.3.1, before and after the third one is placed between them. -/
theorem test_witness_chains :
    let s := { wall2 with pending := [.featureAdd 0 2 21000 27000 9000 21000] }
    s.tablesCanonical ∧ s.ChainsLinked ∧ ∃ t, step s = .next t ∧ t.ChainsLinked :=
  ⟨by decide, ⟨by decide, by decide, by decide, by decide, by decide, by decide, by decide⟩, _, rfl,
    ⟨by decide +kernel, by decide +kernel, by decide +kernel, by decide +kernel, by decide +kernel, by decide +kernel,
      by decide +kernel⟩⟩

/-- CaptureHoldsTheEarliestOfTheMostSevere: the offers of section 9.6. -/
theorem test_witness_capture :
    let c := fun (cls : FaultClass) (n : Nat) => (⟨cls, n, 0, none, none, none, 0⟩ : Captured)
    [c .overrun 1, c .loadTimeout 2, c .sequence 4, c .parkLost 4] ≠ [] ∧
      [c .overrun 1, c .loadTimeout 2, c .sequence 4, c .parkLost 4].foldl (fun held f => offered held f) none =
        some (c .sequence 4) := by decide

/-- EnableAndAcknowledge: the whole set, and the least set that names a reason outside the eleven. -/
theorem test_witness_enable :
    State.reset.serves (.enable 1 2047) = true ∧ (2047 : BitVec 16).toNat < 2048 ∧
      State.reset.serves (.acknowledge 1 2047) = true ∧ State.reset.serves (.enable 1 2048) = true ∧
      State.reset.serves (.acknowledge 1 2048) = true ∧ 2048 ≤ (2048 : BitVec 16).toNat := by decide

/-- ClearFaultAndCaptureClear. -/
theorem test_witness_clear :
    (State.reset.serves (.clearFault 1 1) = true ∧ flagNumbered 1 = some .sequence ∧ State.reset.queue = []) ∧
    ((site [] []).serves (.clearFault 1 2) = true ∧ flagNumbered 2 = some .parkLost ∧
      (site [] []).station.state = .parked) ∧
    (State.reset.serves (.clearFault 1 6) = true ∧ flagNumbered 6 = some .reject) ∧
    ((site [.fed] [entry 0 .onBelt]).serves (.clearFault 1 1) = true ∧
      (site [.fed] [entry 0 .onBelt]).queue ≠ []) ∧
    (State.reset.serves (.clearFault 1 2) = true ∧ State.reset.station.state ≠ .parked) ∧
    (∀ i ∈ [Instr.clearFault 1 0, .clearFault 1 7, .captureRead 1 0, .captureRead 1 3, .captureClear 1 0, .captureClear 1 3],
      State.reset.serves i = true) ∧
    State.reset.serves (.captureClear 1 1) = true ∧ State.reset.serves (.captureClear 1 2) = true := by decide

/-- FreeSlotIsAReferenceEvent: slot 511 is FREE, with strict references off and on, and 512 is no slot. -/
theorem test_witness_free_slot :
    (∀ i ∈ [Instr.slotRead 1 511, .accept 1 511, .relay 1 511, .placed 1 511, .decline 1 511, .absent 1 511,
        .measure 1 511 0 0 0, .slotRead 1 512, .accept 1 512, .relay 1 512, .placed 1 512, .decline 1 512, .absent 1 512,
        .measure 1 512 0 0 0], State.reset.serves i = true) ∧
      State.reset.slot 511 = none ∧ State.reset.params.strictReferences = false ∧
      (let s := { State.reset with params := { State.reset.params with strictReferences := true } };
        s.serves (.slotRead 1 511) = true ∧ s.slot 511 = none ∧ s.params.strictReferences = true) := by decide

/-- ReadsChangeNothing: a record for each of the reads, and a CLOSED wall. -/
theorem test_witness_reads :
    (∀ i ∈ [Instr.wallRead 1 0 0, .configRead 1 3 2, .configRead 1 3 1, .configRead 1 1 0, .configRead 1 2 0,
        .wallRead 1 3 0, .courseRead 1 0 0 none, .courseRead 1 0 0 (some 0), .slotRead 1 11, .runSlack 1 0 0 0,
        .queueRead 1, .stationRead 1, .status 1,
        .captureRead 1 1, .captureRead 1 2], (site [] []).serves i = true) ∧
      (site [] []).wall 0 = some wall0 ∧ (site [] []).wall 3 = none ∧ (site [] []).paramValue 2 = some 500 ∧
      Table.find (site [] []).kinds 0 = some kind0 ∧ Table.find (site [] []).profiles 0 = some profile0 ∧
      (site [] []).heldCourse 0 0 = some (0, course0) ∧ (site [] []).slot 11 = some (brick 11 .planned) ∧
      course0.live = true ∧ 0 < course0.runCount ∧ (course0.runIds.getD [])[0]? = some 0 ∧
      (site [] []).run 0 = some run0 := by decide +kernel

/-- R192: the 54 bytes of SLOT READ, the two leading ones left out, of slot 1 laid and measured. -/
theorem test_slot_read_bytes :
    answered (exec (.slotRead 0 1) (site [.verified, .verified] [])) .p =
      some (Reply.okWith
        [0, 1, 0, 0, 0, 0, 0, 1, 0, 6, 0, 0x79, 0x00, 0x09, 0x61, 101, 0x08, 0xFC, 0, 0, 0, 0, 0, 0, 0, 0, 0, 0, 0, 0,
          0x08, 0xFE, 0x00, 0x09, 0x61, 100, 0, 0, 0, 0, 0x00, 0x12, 0x5D, 0, 0, 0, 0x00, 0x02, 0xDA, 0, 0x08, 0xFE]) := by
  decide +kernel

/-- ReadsChangeNothing, the figures of RUN SLACK: no slot laid, one slot laid, the whole run laid. -/
theorem test_witness_slack :
    (let s := site [] [];
      (s.slotsAt run0.slotIds)[0]? = some (0, brick 0 .planned)) ∧
    (let s := site [.verified] [];
      (s.slotsAt run0.slotIds)[0]? = some (0, brick 0 .verified) ∧
        s.knownFace (brick 0 .verified) = some (2300, true) ∧
        (s.slotsAt run0.slotIds)[1]? = some (1, brick 1 .planned) ∧
        s.gap run0 1 2300 = 27453 - 2300 - (10 * 2300 + 1050)) ∧
    (let s := site (List.replicate 12 .placed) [];
      12 ≤ (s.slotsAt run0.slotIds).length ∧ (∀ e ∈ s.slotsAt run0.slotIds, e.2.state = .placed) ∧
        (s.slotsAt run0.slotIds)[12]? = none ∧ (s.knownFace (brick 11 .placed)).isSome = true) := by decide +kernel

/-- WallOpenStartsTheWall: a CLOSED wall and an OPEN one, at the greatest and the least length. -/
theorem test_witness_wall_open :
    ((site [] []).serves (.wallOpen 1 3 200000) = true ∧ (site [] []).wall 3 = none) ∧
      ((site [] []).serves (.wallOpen 1 0 1000) = true ∧ (site [] []).wall 0 ≠ none) := by decide

/-- WallCloseFreesTheOpenings: wall 2 with the openings of section 1.3.1, while another wall loads. -/
theorem test_witness_wall_close :
    let s := { wall2 with
      courses := [(0, { course0 with state := .loading })]
      load := some { entry := 0, expected := 1, received := [], deadline := 5000 } }
    let r : Wall := { length := 48000, chainHead := 1, nextCourse := 0, baseCourse := 0, settledTop := 0 }
    s.serves (.wallClose 1 2) = true ∧ s.wall 2 = some r ∧
      (∀ e ∈ s.courses, e.2.wall = 2 → e.2.live = false) ∧
      (∀ l, s.load = some l → ∀ c, s.course l.entry = some c → c.wall ≠ 2) ∧ (∀ e ∈ s.chain r, e.2.lintel = none) ∧
      (s.station.wall = 2 → s.station.state ≠ .parked ∧ s.station.state ≠ .draining) := by
  refine ⟨by decide, by decide, by decide, ?_, by decide, by decide⟩
  intro l hl c hc
  cases hl
  cases hc
  decide

/-- FeatureAddLinksTheOpening: step 4 of section 1.3.1, between two openings; and a first opening. -/
theorem test_witness_feature_add :
    let r : Wall := { length := 48000, chainHead := 1, nextCourse := 0, baseCourse := 0, settledTop := 0 }
    (wall2.serves (.featureAdd 1 2 21000 27000 9000 21000) = true ∧ wall2.wall 2 = some r ∧
      wall2.builtHeight 2 r ≤ 9000 ∧
      (∀ e ∈ wall2.chain r, ¬ (21000 < e.2.xb ∧ e.2.xa < 27000 ∧ 9000 < e.2.zHead ∧ e.2.zSill < 21000)) ∧
      wall2.feature 3 = none ∧ (∀ j, 1 ≤ j → j < 3 → wall2.feature j ≠ none) ∧
      wall2.chain r = (wall2.chain r).take 1 ++ (wall2.chain r).drop 1 ∧
      (∀ e ∈ (wall2.chain r).take 1, e.2.xa < 21000 ∨ (e.2.xa = 21000 ∧ e.2.zSill ≤ 9000)) ∧
      ((wall2.chain r).drop 1).head?.map (fun e => e.2.xa) = some 30000) ∧
    ((site [] []).serves (.featureAdd 1 0 0 27453 730 8388607) = true ∧ (site [] []).chain wall0 = [] ∧
      (site [] []).builtHeight 0 wall0 ≤ 730 ∧ (site [] []).feature 1 = none) := by
  refine ⟨⟨by decide, by decide, by decide, by decide, by decide, ?_, by decide, by decide, by decide⟩, by decide +kernel⟩
  intro j h1 h2
  obtain rfl | rfl : j = 1 ∨ j = 2 := by omega
  all_goals decide

/-- FeatureDropAndLintelSet: the first opening of the chain, the second, and an opening that bears a lintel. -/
theorem test_witness_feature_drop :
    let s := { wall2 with walls :=
        [(2, { length := 48000, chainHead := 1, nextCourse := 1, baseCourse := 1, settledTop := 9000 })] }
    let r : Wall := { length := 48000, chainHead := 1, nextCourse := 1, baseCourse := 1, settledTop := 9000 }
    (∃ f, s.serves (.featureDrop 1 1) = true ∧ s.feature 1 = some f ∧ s.wall f.wall = some r ∧
      s.builtHeight f.wall r ≤ f.zSill ∧ f.lintel = none ∧ s.before r 1 = none) ∧
    (∃ f r, wall2.serves (.featureDrop 1 2) = true ∧ wall2.feature 2 = some f ∧ wall2.wall f.wall = some r ∧
      wall2.builtHeight f.wall r ≤ f.zSill ∧ f.lintel = none ∧ wall2.before r 2 = some 1) ∧
    (∃ f, wall2.serves (.lintelSet 1 1 21000 3000) = true ∧ wall2.feature 1 = some f ∧ f.zHead ≤ 21000 ∧
      f.lintel = none) ∧
    (let s := wall2.updateFeature 1 fun f => { f with lintel := some ⟨21000, 0⟩ };
      ∃ f, s.serves (.lintelSet 1 1 8388607 0) = true ∧ s.feature 1 = some f ∧ f.zHead ≤ 8388607 ∧ f.lintel ≠ none) :=
  ⟨⟨_, by decide, rfl, by decide, by decide, rfl, by decide⟩, ⟨_, _, by decide, rfl, rfl, by decide, rfl, by decide⟩,
    ⟨_, by decide, rfl, by decide, rfl⟩, ⟨_, by decide, rfl, by decide, by decide⟩⟩

/-- ConfigKindAndProfileWriteTheEntry: kind 7 and profile 3, with the field left absent and at its bound. -/
theorem test_witness_config :
    ((site [] []).serves (.configKind 1 7 4000 1200 2500 300 none) = true ∧
      (site [] []).serves (.configKind 1 7 1000 400 600 995 (some 50)) = true ∧
      (∀ e ∈ (site [] []).courses, e.2.kind ≠ 7) ∧ (300 : Int) % (site [] []).params.sawStep = 0 ∧
      (995 : Int) % (site [] []).params.sawStep = 0) ∧
    ((site [] []).serves (.configProfile 1 3 20 20 25 20 none) = true ∧
      (site [] []).serves (.configProfile 1 3 245 20 250 250 (some 600000)) = true ∧
      (∀ e ∈ (site [] []).courses, e.2.profile ≠ 3) ∧ (20 : Int) + (site [] []).params.sawStep ≤ 25 ∧
      (245 : Int) + (site [] []).params.sawStep ≤ 250) := by decide

/-- ConfigParamWritesTheParameter: each parameter at a bound of its range. -/
theorem test_witness_param :
    (∀ i ∈ [Instr.configParamSawStep 1 20, .configParamMinimumLap 1 2000, .configParamTolerance 1 3 200,
        .configParamTolerance 1 7 0, .configParamSetTime 1 300000, .configParamDatumSkew 1 500,
        .configParamStrictReferences 1 1, .configParamEdgeSense 1 11 0, .configParamEdgeSense 1 14 1],
      ({ site [] [] with courses := [] } : State).serves i = true) ∧
      (∀ e ∈ (site [] []).kinds, e.2.cmin % 20 = 0) ∧ ∀ e ∈ (site [] []).profiles, e.2.jn + 20 ≤ e.2.jmax := by decide

/-- CourseBeginOpensTheLoad: over a live course, on a wall's first course, and over retired courses. -/
theorem test_witness_course_begin :
    ((site [] []).serves (.courseBegin 1 0 0 0 8) = true ∧ (site [] []).wall 0 = some wall0 ∧ (site [] []).load = none ∧
      Table.find (site [] []).kinds 0 ≠ none ∧ Table.find (site [] []).profiles 0 ≠ none ∧ wall0.nextCourse ≠ 255 ∧
      (site [] []).course 1 = none ∧ (site [] []).course 0 ≠ none ∧
      (site [] []).liveCourse 0 (wall0.nextCourse - 1) = some (0, course0)) ∧
    (let s := { site [] [] with courses := [], walls := [(0, { wall0 with nextCourse := 0 })] };
      s.serves (.courseBegin 1 0 0 0 1) = true ∧ s.wall 0 = some { wall0 with nextCourse := 0 } ∧ s.course 0 = none) ∧
    (let s := { site [] [] with courses := [], walls := [(0, { wall0 with nextCourse := 254 })] };
      s.serves (.courseBegin 1 0 0 0 1) = true ∧ s.liveCourse 0 253 = none ∧ s.course 0 = none) := by decide

/-- The site with course 1 LOADING: the load of section 2.7.1, when as many runs as given are still expected. -/
def loading (expected : Nat) (received : List (Int × Int)) : State :=
  { site [] [] with
    courses := [(0, course0), (1, { course0 with state := .loading, number := 1, baseZ := 760, runCount := 2, runIds := none })]
    load := some { entry := 1, expected := expected, received := received, deadline := 105000 } }

/-- RunEntryJoinsTheLoad and CourseAbandonClosesTheLoad. -/
theorem test_witness_run_entry :
    ((loading 2 []).serves (.runEntry 1 0 1100) = true ∧ (loading 2 []).load = some ⟨1, 2, [], 105000⟩ ∧ 1 < 2) ∧
      ((site [] []).serves (.runEntry 1 0 1100) = true ∧ (site [] []).load = none) ∧
      ((loading 2 []).serves (.courseAbandon 1) = true ∧ ((loading 2 []).course 1).isSome = true) ∧
      (site [] []).serves (.courseAbandon 1) = true := by decide

/-- LastRunEntryCommitsTheCourse: the second RUN ENTRY of section 2.7.1. -/
theorem test_witness_commit :
    (loading 1 [(0, 1100)]).serves (.runEntry 1 1200 27453) = true ∧ (loading 1 [(0, 1100)]).tablesCanonical ∧
      (loading 1 [(0, 1100)]).load = some ⟨1, 1, [(0, 1100)], 105000⟩ ∧
      ∃ c plans, (loading 1 [(0, 1100)]).course 1 = some c ∧ (loading 1 [(0, 1100)]).wall c.wall = some wall0 ∧
        commitChecks (loading 1 [(0, 1100)]) wall0 c ([(0, 1100)] ++ [(1200, 27453)]) = .ok plans :=
  ⟨by decide, by decide, by decide, _, _, rfl, rfl, rfl⟩

/-- RefusedCommitLeavesNoTrace: the single run of section 2.7.1. -/
theorem test_witness_refused_commit :
    (loading 1 []).serves (.runEntry 1 0 27453) = true ∧ (loading 1 []).load = some ⟨1, 1, [], 105000⟩ ∧
      ∃ c refusal, (loading 1 []).course 1 = some c ∧ (loading 1 []).wall c.wall = some wall0 ∧
        commitChecks (loading 1 []) wall0 c ([] ++ [(0, 27453)]) = .error refusal :=
  ⟨by decide, by decide, _, _, rfl, rfl, rfl⟩

/-- SolvedRunCloses: runs with a closer, without one, and of one closer. -/
theorem test_witness_solve :
    (0 < kind0.length ∧ 0 < kind0.cmin ∧ kind0.cmin ≤ kind0.length ∧ kind0.cmin % 5 = 0 ∧ 0 ≤ profile0.jn) ∧
      ∀ d ∈ [27453, 26500, 1802], (0 : Int) < d ∧ (solveRun kind0 profile0 5 true 0 0 d).toOption.isSome = true := by
  decide

/-- SupportCheckJudgesEveryTenth: a slot that is taken, one with five supports, and one over a gap. -/
theorem test_witness_support :
    let p : SlotPlan :=
      { index := 0, left := 0, length := 2300, joint := none, closer := false, supports := [], lintelSupported := false }
    0 < p.length ∧ (supportSlot ⟨[(0, (0, 2300))], [(0, 2299)], [(2299, 2301)]⟩ 0 p).toOption.isSome = true ∧
      (supportSlot ⟨(List.range 5).map fun i => (i, (100 * i, 100 * i + 1)), [(0, 2300)], []⟩ 0 p).toOption = none ∧
      (supportSlot ⟨[], [(0, 2299)], []⟩ 0 p).toOption = none := by decide

/-- LoadTimeoutAbandonsTheLoad: 5 000 ms after the start, one millisecond before, and without a load. -/
theorem test_witness_timeout :
    (let s := { loading 2 [] with siteTime := 105000 };
      s.hold = .running ∧ s.load = some ⟨1, 2, [], 105000⟩ ∧ 5000 ≤ elapsed s.siteTime (105000 - 5000)) ∧
    (let s := { loading 2 [] with siteTime := 104999 };
      s.hold = .running ∧ elapsed s.siteTime (105000 - 5000) < 5000) ∧
    (site [] []).hold = .running ∧ (site [] []).load = none := by decide

/-- CourseRetireFreesTheCourse: course 0 COMPLETE and set, with course 1 above it. -/
theorem test_witness_retire :
    let s := { stacked (site (List.replicate 12 .verified) []) .planned with
      courses := [(0, { course0 with state := .complete }), (1, { course0 with number := 1, baseZ := 760, runIds := some [1] })] }
    s.serves (.courseRetire 1 0 0) = true ∧ (s.wall 0).map Wall.baseCourse = some 0 ∧
      s.heldCourse 0 0 = some (0, { course0 with state := .complete }) ∧
      (∀ e ∈ s.courseSlots { course0 with state := .complete }, s.stillSetting e.2 = 0) ∧
      (s.liveCourse 0 1).isSome = true := by decide +kernel

/-- AcceptTakesTheBrickAsBuilt and RelayReturnsTheSlotToPlanned: a REJECTED slot, alone, as the last one, and a slot in
another state. -/
theorem test_witness_accept :
    (let s := site [.verified, .rejected] [];
      s.serves (.accept 1 1) = true ∧ s.serves (.relay 1 1) = true ∧ s.slot 1 = some (brick 1 .rejected) ∧
        s.course 0 = some course0 ∧ (∀ e ∈ s.slotsAt (run0.slotIds.drop 2), e.2.state = .planned) ∧
        (s.runOf (brick 1 .rejected)).slotIds = run0.slotIds ∧
        ∀ e ∈ s.laySlots 0, 1 ∈ e.2.supports → e.2.state = .planned) ∧
    (let s := site (List.replicate 11 .verified ++ [.rejected]) [];
      s.serves (.accept 1 11) = true ∧ s.slot 11 = some (brick 11 .rejected) ∧ s.course 0 = some course0) ∧
    (let s := site [.verified] [];
      s.serves (.accept 1 0) = true ∧ s.slot 0 = some (brick 0 .verified) ∧ s.course 0 = some course0) := by
  decide +kernel

/-- CandidateIsTheFirstFeedableSlot: the walk has a candidate, and a walk with every slot laid has none. -/
theorem test_witness_candidate :
    (site [.fed] [entry 0 .onBelt]).candidate = some (1, brick 1 .planned) ∧
      (site (List.replicate 12 .verified) []).candidate = none := by decide +kernel

/-- CandidateIsTheFirstFeedableSlot, lay order: two courses of a wall. -/
theorem test_witness_lay_order :
    let s := stacked (site [.verified] []) .planned
    s.tablesCanonical ∧ s.loadNamesLoading ∧ s.numbersInOrder ∧ s.RecordsLinked ∧
      (s.laySlots 0).map Prod.fst = List.range 13 ∧
      (s.predecessor (brick 1 .planned)).map Prod.fst = some 0 :=
  ⟨by decide +kernel, by decide, by decide,
    ⟨by decide, by decide, by decide, by decide +kernel, by decide +kernel, by decide, by decide +kernel⟩,
    by decide +kernel, by decide +kernel⟩

/-- PickAssignsTheBrick: a whole brick at the bound of its tolerance, a closer whose cut is made, and one whose cut is
committed. -/
theorem test_witness_pick :
    (let s := site [.fed, .fed] [entry 0 .atGripper, entry 1 .onBelt];
      s.serves (.pick 1 0 2330) = true ∧ s.station.state = .parked ∧ s.flags.severe = false ∧ s.queue.length < 6 ∧
        s.candidate = some (2, brick 2 .planned) ∧
        magnitude (2330 - (s.kind 0).length) ≤ (s.kind 0).lt ∧ (brick 2 .planned).closer = false) ∧
    (beforeCut.serves (.pick 1 0 2296) = true ∧ beforeCut.station.state = .parked ∧ beforeCut.flags.severe = false ∧
      beforeCut.queue.length < 6 ∧ beforeCut.candidate = some (11, brick 11 .planned) ∧
      magnitude (2296 - (beforeCut.kind 0).length) ≤ (beforeCut.kind 0).lt ∧ (brick 11 .planned).closer = true ∧
      (beforeCut.runOf (brick 11 .planned)).closerCommitted = false) ∧
    (let s := { beforeCut with runs := [(0, { run0 with closerCommitted := true })] };
      s.serves (.pick 1 0 2270) = true ∧ s.candidate = some (11, brick 11 .planned) ∧
        magnitude (2270 - (s.kind 0).length) ≤ (s.kind 0).lt ∧ (s.runOf (brick 11 .planned)).closerCommitted = true) := by
  decide +kernel

/-- PickHoldsInOrder: each of the seven answers that assign no brick. -/
theorem test_witness_pick_holds :
    let s := site [.fed] [entry 0 .onBelt]
    (s.serves (.pick 1 8 2300) = true ∧ 7 < 8) ∧
    (State.reset.serves (.pick 1 7 2300) = true ∧ State.reset.station.state ≠ .parked) ∧
    (let h := { s with flags := { s.flags with parkLost := true } };
      h.serves (.pick 1 7 2300) = true ∧ h.station.state = .parked ∧ h.flags.severe = true) ∧
    (let h := { s with queue := List.replicate 6 (entry 0 .onBelt) };
      h.serves (.pick 1 7 2300) = true ∧ h.station.state = .parked ∧ h.flags.severe = false ∧ 6 ≤ h.queue.length) ∧
    (let h := site (List.replicate 12 .verified) [];
      h.serves (.pick 1 7 2300) = true ∧ h.station.state = .parked ∧ h.queue.length < 6 ∧ h.candidate = none) ∧
    (s.serves (.pick 1 3 2300) = true ∧ s.station.state = .parked ∧ s.flags.severe = false ∧ s.queue.length < 6 ∧
      s.candidate = some (1, brick 1 .planned) ∧ 3 ≠ (brick 1 .planned).kind) ∧
    (s.serves (.pick 1 0 2331) = true ∧ (s.kind 0).lt < magnitude (2331 - (s.kind 0).length)) := by decide +kernel

/-- CloserCutIsASawStep: the cut of section 4.6.5, a run with no known face, and the two limits. -/
theorem test_witness_cut :
    (∃ below p between face measured,
      beforeCut.slotsAt ((beforeCut.runOf (brick 11 .planned)).slotIds.take 11) = below ++ p :: between ∧
        beforeCut.knownFace p.2 = some (face, measured) ∧ ∀ e ∈ between, beforeCut.knownFace e.2 = none) ∧
    (let s := site (List.replicate 11 .fed) [];
      ∀ e ∈ s.slotsAt ((s.runOf (brick 11 .planned)).slotIds.take 11), s.knownFace e.2 = none) ∧
    limitCut kind0 5 599 = (600, .low) ∧ limitCut kind0 5 600 = (600, .none) ∧ limitCut kind0 5 2304 = (2300, .none) ∧
    limitCut kind0 5 2305 = (2300, .high) := by
  refine ⟨⟨(beforeCut.slotsAt (List.range 5)), (5, { brick 5 .verified with
    measurement := some { xRight := 14334, yOff := 0, zTop := 730 } }), beforeCut.slotsAt [6, 7, 8, 9, 10], 14334, true,
    ?_⟩, ?_⟩
  all_goals decide +kernel

/-- DeliveredComparesTheTag: an old tag, the head's tag, another tag of this generation, and an empty queue. -/
theorem test_witness_delivered :
    let s := site [.fed, .fed] [entry 0 .onBelt, entry 1 .onBelt]
    (s.serves (.delivered 1 9 0) = true ∧ (9 : Byte) ≠ s.generation) ∧
    (s.serves (.delivered 1 0 0) = true ∧ s.queue = entry 0 .onBelt :: [entry 1 .onBelt] ∧ 0 = s.generation ∧
      (entry 0 .onBelt).generation = 0 ∧ (entry 0 .onBelt).slot = 0 ∧ (entry 0 .onBelt).position = .onBelt) ∧
    (s.serves (.delivered 1 0 511) = true ∧ (entry 0 .onBelt).slot ≠ 511) ∧
    (let e := site [.fed] [entry 0 .atGripper];
      e.serves (.delivered 1 0 0) = true ∧ (entry 0 .atGripper).position = .atGripper) ∧
    ((site [] []).serves (.delivered 1 0 511) = true ∧ (site [] []).queue = []) := by decide +kernel

/-- FlushEmptiesTheBelt: with a slot in hand, and with none, in a drain. -/
theorem test_witness_flush :
    ((site [.issued] [entry 0 .atGripper]).serves (.flush 1) = true ∧
      (site [.issued] [entry 0 .atGripper]).inHand = some (0, brick 0 .issued)) ∧
    ((site [.fed] [entry 0 .atGripper]).serves (.flush 1) = true ∧ (site [.fed] [entry 0 .atGripper]).inHand = none) := by
  decide +kernel

/-- CloserCutIsASawStep, the cut that PICK commits; DeliveredComparesTheTag, the least slot id out of range. -/
theorem test_witness_closer_cut :
    (0 < beforeCut.params.sawStep ∧ 0 < (beforeCut.kind 0).cmin ∧ (beforeCut.kind 0).cmin ≤ (beforeCut.kind 0).length ∧
      (beforeCut.kind 0).cmin % beforeCut.params.sawStep = 0 ∧
      beforeCut.closerCut (brick 11 .planned) = (1015, .none)) ∧
    (site [] []).serves (.delivered 1 0 512) = true ∧ 512 ≤ 512 := by decide +kernel

/-- NextIssuesTheHead: the issue of section 6.7, and a slot on a support. -/
theorem test_witness_next :
    (cold.serves (.next 1) = true ∧ cold.inHand = none ∧ cold.filters.arm.level = true ∧ cold.flags.severe = false ∧
      cold.station.state.inUse = true ∧ cold.station.datumValid = true ∧ cold.filters.wind.level = false ∧
      cold.queue = entry 8 .atGripper :: [9, 10, 11].map (fun i => entry i .onBelt) ∧
      cold.slot 8 = some (brick 8 .fed) ∧ cold.inReach (brick 8 .fed) = true ∧
      (cold.predecessor (brick 8 .fed)).map (fun p => p.2.state) = some .verified) ∧
    (let s := { stacked (site [.verified] []) .fed with queue := [{ entry 0 .atGripper with slot := 12 }] };
      s.serves (.next 1) = true ∧ s.inHand = none ∧
        ∃ sl, s.slot 12 = some sl ∧ s.inReach sl = true ∧ s.predecessor sl = none ∧ s.slotsAt sl.supports ≠ [] ∧
          ∀ u ∈ s.slotsAt sl.supports, u.2.state = .verified ∧ s.stillSetting u.2 = 0) :=
  ⟨by decide +kernel, by decide +kernel, by decide +kernel, _, rfl, by decide +kernel, by decide +kernel,
    by decide +kernel, by decide +kernel⟩

/-- NextWaitsInOrder: a state for each of conditions 1 to 11; for 11, one millisecond before the support has set. -/
theorem test_witness_next_waits :
    let s := site [.fed] [entry 0 .onBelt]
    ((site [.issued] [entry 0 .atGripper]).serves (.next 1) = true ∧
      (site [.issued] [entry 0 .atGripper]).inHand = some (0, brick 0 .issued)) ∧
    ((site [.uncertain] [entry 0 .atGripper]).serves (.next 1) = true ∧
      (site [.uncertain] [entry 0 .atGripper]).inHand = some (0, brick 0 .uncertain)) ∧
    (State.reset.serves (.next 1) = true ∧ State.reset.filters.arm.level = false) ∧
    (let h := { s with flags := { s.flags with sequence := true } };
      h.serves (.next 1) = true ∧ h.inHand = none ∧ h.filters.arm.level = true ∧ h.flags.severe = true) ∧
    (let h := { s with station := { s.station with state := .moving } };
      h.serves (.next 1) = true ∧ h.inHand = none ∧ h.station.state.inUse = false) ∧
    (let h := { s with station := { s.station with datumValid := false } };
      h.serves (.next 1) = true ∧ h.inHand = none ∧ h.station.state.inUse = true ∧ h.station.datumValid = false) ∧
    (let h := { s with filters := { s.filters with wind := asserted } };
      h.serves (.next 1) = true ∧ h.inHand = none ∧ h.station.datumValid = true ∧ h.filters.wind.level = true) ∧
    (s.serves (.next 1) = true ∧ s.inHand = none ∧ s.filters.wind.level = false ∧
      s.queue.head?.map Entry.position = some .onBelt) ∧
    (let h := { site [.fed] [entry 0 .atGripper] with station := { s.station with xHi := 2299 } };
      h.serves (.next 1) = true ∧ h.inHand = none ∧ h.inReach (brick 0 .fed) = false) ∧
    (let h := site [.fed, .fed] [entry 1 .atGripper];
      h.serves (.next 1) = true ∧ h.inHand = none ∧ h.inReach (brick 1 .fed) = true ∧
        h.predecessor (brick 1 .fed) = some (0, brick 0 .fed)) ∧
    (let h := { stacked (site [.placed] []) .fed with queue := [{ entry 0 .atGripper with slot := 12 }] };
      h.serves (.next 1) = true ∧ h.inHand = none ∧ h.slotsAt [0] = [(0, brick 0 .placed)]) ∧
    (let h := { stacked (site [.verified] []) .fed with
        queue := [{ entry 0 .atGripper with slot := 12 }], siteTime := 29999 };
      h.serves (.next 1) = true ∧ h.inHand = none ∧ h.slotsAt [0] = [(0, brick 0 .verified)] ∧
        h.stillSetting (brick 0 .verified) = 1) := by decide +kernel

/-- IssueJointIsTheShareWithinTheProfile: the issue of section 4.6.4. -/
theorem test_witness_share :
    (brick 5 .fed).index ≠ 0 ∧ (brick 5 .fed).index < (drifted.runOf (brick 5 .fed)).n ∧
      (drifted.profileOf (brick 5 .fed)).jmin ≤ (drifted.profileOf (brick 5 .fed)).jmax ∧
      ∃ p, drifted.predecessor (brick 5 .fed) = some p ∧ drifted.knownFace p.2 = some (11930, true) :=
  ⟨by decide, by decide, by decide, _, rfl, rfl⟩

/-- IssueJointIsTheShareWithinTheProfile: shares above and below the profile, and a face beyond the Solver's range. -/
theorem test_correction_clamps :
    let moved := fun (x : Int) => { drifted with
      slots := Table.update drifted.slots 4 fun sl => { sl with measurement := some { xRight := x, yOff := 0, zTop := 730 } } }
    (moved 11300).correction (brick 5 .fed) =
        { targetLeft := 11440, targetJoint := some 140, predicted := false, clamped := true } ∧
      (moved 12300).correction (brick 5 .fed) =
        { targetLeft := 12360, targetJoint := some 60, predicted := false, clamped := true } ∧
      (moved 7884358).correction (brick 5 .fed) =
        { targetLeft := 7884417, targetJoint := some 60, predicted := false, clamped := true } := by decide +kernel

/-- IssueJointIsTheShareWithinTheProfile: slots whose current length is the cut, the gauged and the planned length, and whose
known face is absent, the target and the measurement. -/
theorem test_witness_faces :
    let s := site [] []
    ({ brick 11 .fed with cutLength := some 1015 }.closer = true ∧ (brick 11 .fed).gauged = some 2296 ∧
      (brick 11 .planned).closer = true ∧ (brick 11 .planned).gauged = none ∧ (brick 10 .planned).closer = false) ∧
    s.currentLength (brick 11 .planned) = 1050 ∧ s.currentLength (brick 11 .fed) = 2296 ∧
    (brick 0 .planned).index = 0 ∧ s.knownFace (brick 0 .fed) = none ∧
    s.knownFace (brick 0 .issued) = some (2300, false) ∧ (brick 0 .issued).targetLeft = some 0 ∧
    s.knownFace (brick 1 .verified) = some (4701, true) := by decide +kernel

/-- PlacedLaysTheBrick, PlacedElsewhereChangesNothing, DeclineGivesTheOrderBack, MeasureStoresAndVerifies and
AbsentSettlesTheSlot: slot 0 in each state, and the closer of section 7.6, which holds a measurement. -/
theorem test_witness_laying :
    (∀ st ∈ [SlotState.planned, .fed, .issued, .uncertain, .placed, .verified, .rejected],
      (site [st] []).slot 0 = some (brick 0 st) ∧
        ∀ i ∈ [Instr.placed 1 0, .decline 1 0, .measure 1 0 2300 0 730, .absent 1 0],
          (site [st] []).serves i = true) ∧
    closerHeld.serves (.placed 1 11) = true ∧ ((closerHeld.slot 11).bind Slot.measurement).isSome = true ∧
      (closerHeld.slot 11).map Slot.state = some .issued := by decide +kernel

/-- MeasureStoresAndVerifies: the measurement of the last slot, on its planned face, completes the course. -/
theorem test_measure_completes :
    let s := { site (List.replicate 11 .verified ++ [.placed]) [] with
      slots := Table.update (bricks (List.replicate 11 .verified ++ [.placed])) 11 fun sl =>
        { sl with cutLength := some 1050 } }
    let t := after (exec (.measure 0 11 27453 0 730) s)
    s.failures { brick 11 .placed with cutLength := some 1050 } ⟨27453, 0, 730⟩ = [] ∧
      (t.slot 11).map Slot.state = some .verified ∧ (t.course 0).map Course.state = some .complete ∧
      t.reasons = Reason.courseComplete.bit := by decide +kernel

/-- OpenJointExpiryMarksTheNextSlot: at the deadline and one millisecond before. -/
theorem test_witness_expiry :
    let r := { run0 with openJoint := some { index := 0, deadline := 100000 } }
    let s := { site [.verified, .fed] [] with runs := [(0, r)] }
    (s.hold = .running ∧ s.run 0 = some r ∧ r.openJoint = some { index := 0, deadline := 100000 } ∧
      s.openTime r ≤ elapsed s.siteTime (100000 - BitVec.ofNat 32 (s.openTime r)) ∧
      r.slotIds[1]? = some 1 ∧ s.slot 1 = some (brick 1 .fed)) ∧
    (let h := { s with siteTime := 99999 };
      h.run 0 = some r ∧ elapsed h.siteTime (100000 - BitVec.ofNat 32 (h.openTime r)) < h.openTime r) := by
  decide +kernel

/-- StationSetDatumAndMove: the widest window, the offsets at their bounds, and each state of the station for MOVE. -/
theorem test_witness_station :
    (let s := { site [] [] with
        walls := [(0, { wall0 with length := 80000 })], station := { (site [] []).station with state := .lost } };
      s.serves (.stationSet 1 0 0 80000 8388607) = true ∧ s.station.state ≠ .parked ∧ s.station.state ≠ .draining ∧
        s.filters.parked.level = true ∧ s.wall 0 = some { wall0 with length := 80000 } ∧ (80000 : Int) - 0 ≤ 80000) ∧
    ((site [] []).serves (.datum 1 (-500000) 500000 0 (-50)) = true ∧ (site [] []).station.state = .parked ∧
      (site [] []).inHand = none ∧ magnitude (-50) ≤ (site [] []).params.maxSkew) ∧
    ((site [.fed] [entry 0 .onBelt]).serves (.stationMove 1) = true ∧ (site [.fed] [entry 0 .onBelt]).queue ≠ []) ∧
    ((site [] []).serves (.stationMove 1) = true ∧ (site [] []).queue = []) ∧
    ∀ st ∈ [StationState.unset, .draining, .moving, .lost],
      ({ site [] [] with station := { (site [] []).station with state := st } } : State).serves (.stationMove 1) = true := by
  decide +kernel

/-- EdgesNeedTenMilliseconds: a raw level that changes and one that does not. -/
theorem test_witness_raw :
    State.reset.hold = .running ∧ (State.reset.filters.get .windHold).raw ≠ true ∧
      (State.reset.filters.get .windHold).raw = false := by decide

/-- A line whose raw level has stood for the time given. -/
def waiting (raw : Bool) (ms : Time) : Filter := { raw := raw, level := !raw, changedAt := 100000 - ms }

/-- EdgesWithoutEffectOnABlock, TruckParkedFallingLosesTheStation and ArmReadyFallsAndTheGroundShifts: edges that are due
after 10 ms and not after 9, at a station in use and at one that is not, with a slot ISSUED and without. -/
theorem test_witness_edges :
    (let s := { site [.issued] [entry 0 .atGripper] with
        filters :=
          { arm := waiting false 10, parked := waiting false 10, ground := waiting true 10, wind := waiting true 10 } };
      s.hold = .running ∧ (s.filters.get .armReady).edgeDue s.siteTime = true ∧
        (s.filters.get .truckParked).edgeDue s.siteTime = true ∧ (s.filters.get .groundShift).edgeDue s.siteTime = true ∧
        (s.filters.get .windHold).edgeDue s.siteTime = true ∧ s.filters.arm.raw = false ∧ s.filters.parked.raw = false ∧
        s.filters.ground.raw = true ∧ s.station.state = .parked ∧ s.issuedSlot = some (0, brick 0 .issued) ∧
        s.slot 0 = some (brick 0 .issued)) ∧
    (let s := { State.reset with
        siteTime := 100000
        filters :=
          { arm := waiting true 10, parked := waiting true 10, ground := waiting false 10, wind := waiting false 9 } };
      (s.filters.get .armReady).edgeDue s.siteTime = true ∧ (s.filters.get .armReady).raw = true ∧
        (s.filters.get .truckParked).edgeDue s.siteTime = true ∧ (s.filters.get .truckParked).raw = true ∧
        (s.filters.get .groundShift).edgeDue s.siteTime = true ∧ (s.filters.get .groundShift).raw = false ∧
        (s.filters.get .windHold).edgeDue s.siteTime = false) ∧
    (let s := { State.reset with
        siteTime := 100000, filters := { State.reset.filters with arm := waiting false 10, parked := waiting false 10 } };
      (s.filters.get .armReady).edgeDue s.siteTime = true ∧ s.issuedSlot = none ∧
        (s.filters.get .truckParked).edgeDue s.siteTime = true ∧ s.station.state ≠ .parked ∧
        s.station.state ≠ .draining) ∧
    (State.reset.hold = .running ∧ ∀ line ∈ [Line.armReady, .truckParked, .groundShift, .windHold],
      (State.reset.filters.get line).edgeDue State.reset.siteTime = false) := by decide +kernel

/-- LinkResetKeepsTheRecords: the least and the greatest width of a link reset, and a width below. -/
theorem test_witness_link_reset :
    ({ loading 2 [] with resetN := false } : State).hold = .running ∧
      ({ loading 2 [] with resetN := false } : State).resetN = false ∧ 1000 ≤ 1000 ∧ 19999 < 20000 ∧ 999 < 1000 := by
  decide

/-- FullResetAndRelease: each way into a full reset and out of it. -/
theorem test_witness_full_reset :
    (let s := { site [] [] with resetN := false };
      s.resetN = false ∧ s.hold = .running) ∧
    (let s := { site [] [] with resetN := false, hold := .byResetN };
      s.resetN = false ∧ s.hold = .byResetN) ∧
    (let s := { site [] [] with hold := .bySupply };
      s.resetN = true ∧ s.hold = .bySupply) := by decide

/-! ### Witnesses for the tables of refusals: for each row, a state that serves the request and reaches the row -/

/-- The state serves the request, which is answered so. -/
def gives (s : State) (i : Instr) (port : Port) (r : Reply) : Bool := s.serves i && answered (exec i s) port = some r

/-- WallCloseFreesTheOpenings, FeatureAddLinksTheOpening and FeatureDropAndLintelSet. -/
theorem test_rows_walls :
    let lintel := wall2.updateFeature 1 fun f => { f with lintel := some ⟨21000, 0⟩ }
    let low := { site [] [] with
      walls := [(0, { wall0 with chainHead := 1 })], features := [(1, ⟨0, 0, 100, 729, 2000, none, 0⟩)] }
    let full := { wall2 with features := (List.range 64).map fun k => (k + 1, ⟨2, 0, 1, 0, 1, none, 0⟩) }
    (∀ i ∈ [Instr.wallOpen 1 4 1000, .wallOpen 1 3 999, .wallOpen 1 3 200001, .wallClose 1 4, .wallRead 1 4 0,
        .featureAdd 1 4 0 1 0 1, .featureAdd 1 3 0 1 1 1, .featureDrop 1 0, .featureDrop 1 65, .lintelSet 1 65 0 0,
        .lintelSet 1 3 0 3001, .lintelSet 1 1 20999 0, .lintelSet 1 1 8388608 0],
      gives wall2 i .p (Reply.refuse .outOfRange)) ∧
    (∀ i ∈ [Instr.wallClose 1 3, .featureAdd 1 3 5 1 0 1, .featureDrop 1 64, .lintelSet 1 64 0 0],
      gives wall2 i .p (Reply.refuse .noRecord)) ∧
    (wall2.before ((wall2.wall 2).getD (wall0)) 1 = none ∧ wall2.before ((wall2.wall 2).getD (wall0)) 2 = some 1) ∧
    gives (site [] []) (.wallClose 1 0) .p (Reply.refuse .liveCourse) ∧
      gives { loading 2 [] with courses := [(1, { course0 with state := .loading, runIds := none })] } (.wallClose 1 0) .p
        (Reply.refuse .loading) ∧
      gives lintel (.wallClose 1 2) .p (Reply.refuse .lintel) ∧
      gives { site [] [] with courses := [] } (.wallClose 1 0) .p (Reply.refuse .station) ∧
      gives wall2 (.featureAdd 1 2 0 1 0 8388608) .p (Reply.refuse .outOfRange) ∧
      gives wall2 (.featureAdd 1 2 0 48001 0 1) .p (Reply.refuse .outOfRange) ∧
      gives (site [] []) (.featureAdd 1 0 0 1 729 730) .p (Reply.refuse .built) ∧
      gives full (.featureAdd 1 2 1 2 0 1) .p (Reply.refuse .noSpace) ∧
      gives low (.featureDrop 1 1) .p (Reply.refuse .built) ∧ gives lintel (.featureDrop 1 1) .p (Reply.refuse .lintel) := by
  decide +kernel

/-- A part with no course held, whose profile 2 is not valid under a saw step of 5. -/
def tight : State := { site [] [] with courses := [], profiles := [(2, { profile0 with jmax := 104 })] }

/-- ConfigKindAndProfileWriteTheEntry and ConfigParamWritesTheParameter. -/
theorem test_rows_config :
    let s := site [] []
    gives s (.configKind 1 0 4001 700 1000 600 none) .p (Reply.refuse .outOfRange) ∧
      gives s (.configKind 1 0 2300 700 1000 601 none) .p (Reply.refuse .inUse) ∧
      gives s (.configKind 1 7 2300 700 1000 601 none) .p (Reply.refuse .sawStep) ∧
      gives s (.configProfile 1 0 100 60 140 30 (some 9999)) .p (Reply.refuse .outOfRange) ∧
      gives s (.configProfile 1 0 100 60 100 30 none) .p (Reply.refuse .inUse) ∧
      gives s (.configProfile 1 3 100 60 104 30 none) .p (Reply.refuse .sawStep) ∧
      (∀ i ∈ [Instr.configParamSawStep 1 0, .configParamSawStep 1 21, .configParamMinimumLap 1 2001,
          .configParamTolerance 1 3 201, .configParamTolerance 1 7 (-1), .configParamSetTime 1 300001,
          .configParamDatumSkew 1 501, .configParamStrictReferences 1 2, .configParamEdgeSense 1 11 2,
          .configParamEdgeSense 1 15 0, .configParamEdgeSense 1 0 0],
        gives s i .p (Reply.refuse .outOfRange)) ∧
      gives s (.configParamSawStep 1 5) .p (Reply.refuse .inUse) ∧
      gives tight (.configParamSawStep 1 7) .p (Reply.refusedWith .sawStep [0]) ∧
      gives tight (.configParamSawStep 1 5) .p (Reply.refusedWith .sawStep [2]) := by decide +kernel

theorem test_rows_canonical : (site [] []).tablesCanonical ∧ tight.tablesCanonical := by decide +kernel

/-- ReadsChangeNothing: each row that refuses a read. -/
theorem test_rows_reads :
    let s := loading 2 []
    (∀ i ∈ [Instr.configRead 1 1 8, .configRead 1 2 4, .configRead 1 3 0, .configRead 1 3 15, .configRead 1 0 0,
        .configRead 1 4 0, .courseRead 1 4 0 none, .courseRead 1 0 256 none, .courseRead 1 0 0 (some 1),
        .courseRead 1 0 1 (some 0), .runSlack 1 0 0 8, .runSlack 1 0 0 1, .runSlack 1 0 1 0],
      gives s i .p (Reply.refuse .outOfRange)) ∧
    ∀ i ∈ [Instr.configRead 1 1 7, .configRead 1 2 3, .courseRead 1 3 0 (some 7), .courseRead 1 0 2 (some 7),
        .runSlack 1 3 0 7, .runSlack 1 0 2 7],
      gives s i .p (Reply.refuse .noRecord) := by decide +kernel

/-- CourseBeginOpensTheLoad and CourseRetireFreesTheCourse; a record that is no slot, with strict references off and on. -/
theorem test_rows_courses :
    let s := site [] []
    let strict := { s with params := { s.params with strictReferences := true } }
    let done := { site (List.replicate 12 .verified) [] with courses := [(0, { course0 with state := .complete })] }
    gives s (.courseBegin 1 0 0 0 9) .p (Reply.refuse .outOfRange) ∧
      gives s (.courseBegin 1 3 0 0 1) .p (Reply.refuse .noRecord) ∧
      gives strict (.courseBegin 1 3 0 0 1) .p (Reply.refuse .noRecord) ∧
      (after (exec (.courseBegin 1 3 0 0 1) strict)).processCapture.map Captured.detail = some 65539 ∧
      gives (loading 2 []) (.courseBegin 1 0 7 0 1) .p (Reply.refuse .busy) ∧
      gives s (.courseBegin 1 0 7 3 1) .p (Reply.refusedWith .undefined [7]) ∧
      gives s (.courseBegin 1 0 0 3 1) .p (Reply.refusedWith .undefined [3]) ∧
      gives { s with walls := [(0, { wall0 with nextCourse := 255 })] } (.courseBegin 1 0 0 0 1) .p
        (Reply.refuse .courseLimit) ∧
      gives { s with courses := (List.range 48).map fun e => (e, course0) } (.courseBegin 1 0 0 0 1) .p
        (Reply.refuse .noSpace) ∧
      gives done (.courseRetire 1 0 256) .p (Reply.refuse .outOfRange) ∧
      gives done (.courseRetire 1 3 0) .p (Reply.refuse .noRecord) ∧
      gives done (.courseRetire 1 0 1) .p (Reply.refuse .noRecord) ∧
      gives s (.courseRetire 1 0 0) .p (Reply.refuse .notComplete) ∧
      gives { done with siteTime := 29999 } (.courseRetire 1 0 0) .p (Reply.refusedWith .setting [0, 0, 0, 1]) ∧
      gives { done with walls := [(0, { wall0 with baseCourse := 1 })] } (.courseRetire 1 0 0) .p
        (Reply.refuse .notLowest) := by decide +kernel

/-- RefusedCommitLeavesNoTrace: a commit that each of the seven checks refuses (the lap of section 2.7.1 stands above), and
one that passes with no live course below. SolvedRunCloses: the limits of R36 and R37. -/
theorem test_rows_commit :
    let s := { site [] [] with
      walls := [(0, { wall0 with length := 30000 })], features := [(4, ⟨0, 5000, 6000, 1459, 2000, none, 0⟩)] }
    let r : Wall := { wall0 with length := 30000 }
    let c : Course := { course0 with state := .loading, number := 1, baseZ := 760 }
    let refused := fun (s : State) (r : Wall) (runs : List (Int × Int)) (a : Reply) =>
      decide (commitChecks s r c runs = .error a)
    refused { s with runs := (List.range 128).map fun i => (i, run0) } r [(0, 1100)]
        (Reply.refusedWith .noSpace [0, 1, 0, 0, 1]) ∧
      refused s r [(0, 1100), (1200, 30001)] (Reply.refusedWith .outOfRange [1]) ∧
      refused s r [(0, 1100), (1099, 27453)] (Reply.refusedWith .runsOverlap [1]) ∧
      refused s { r with chainHead := 4 } [(0, 1100), (1200, 27453)] (Reply.refusedWith .crossesOpening [1, 4]) ∧
      refused s r [(0, 1100), (1200, 1799)] (Reply.refusedWith .runTooShort [1]) ∧
      refused { s with slots := (List.range 512).map fun i => (i, brick 0 .planned) } r [(0, 1100)]
        (Reply.refusedWith .noSpace [0, 1, 0, 0, 2]) ∧
      refused s r [(0, 1100), (26000, 30000)] (Reply.refusedWith .unsupported [1, 0]) ∧
      (commitChecks s r { c with number := 3 } [(26000, 30000)]).toOption.isSome = true ∧
      solveRun kind0 profile0 5 true 2 0 232700 = .error (Reply.refusedWith .runTooLong [2]) ∧
      solveRun kind0 profile0 5 false 2 0 27453 = .error (Reply.refusedWith .noSaw [2]) ∧
      solveRun kind0 { profile0 with jmax := 100 } 5 true 2 0 27453 =
        .error (Reply.refusedWith .runUnsolvable [2]) := by decide +kernel

/-- RelayReturnsTheSlotToPlanned, MeasureStoresAndVerifies, StationSetDatumAndMove. -/
theorem test_rows_slots_and_station :
    let s := site [] []
    let lost := { s with station := { s.station with state := .lost } }
    gives (site [.verified] []) (.relay 1 0) .p (Reply.refusedWith .notRejected [6]) ∧
      gives (site [.rejected, .fed] []) (.relay 1 0) .p (Reply.refusedWith .notLast [1, 2]) ∧
      gives (stacked (site [.rejected] []) .fed) (.relay 1 0) .p (Reply.refusedWith .loaded [0, 12]) ∧
      gives (site [.fed] []) (.measure 1 0 0 0 0) .t (Reply.refusedWith .notPlaced [2]) ∧
      gives (site [.rejected] []) (.measure 1 0 0 0 0) .t (Reply.plain .duplicate [7]) ∧
      gives s (.stationSet 1 0 0 100 0) .p (Reply.refuse .outOfRange) ∧
      gives s (.stationSet 1 3 0 100 1) .p (Reply.refusedWith .badState [2]) ∧
      gives { lost with filters := State.reset.filters } (.stationSet 1 3 0 100 1) .p (Reply.refuse .notParked) ∧
      gives lost (.stationSet 1 3 0 100 1) .p (Reply.refuse .noRecord) ∧
      gives lost (.stationSet 1 0 0 27454 1) .p (Reply.refuse .outOfRange) ∧
      gives lost (.datum 1 0 0 0 0) .t (Reply.refusedWith .badState [5]) ∧
      gives (site [.issued] [entry 0 .atGripper]) (.datum 1 500001 0 0 0) .t (Reply.plain .busy [0, 0]) ∧
      gives s (.datum 1 500001 500001 0 0) .t (Reply.refusedWith .datumRange [0x07, 0xA1, 0x21]) ∧
      gives s (.datum 1 0 (-500001) 0 0) .t (Reply.refusedWith .datumRange [0xF8, 0x5E, 0xDF]) ∧
      gives s (.datum 1 0 0 500001 51) .t (Reply.refusedWith .datumRange [0x07, 0xA1, 0x21]) ∧
      gives s (.datum 1 0 0 0 (-51)) .t (Reply.refusedWith .datumSkew [0xFF, 0xCD, 0, 50]) := by decide +kernel

end Sys2Proof.Tests
end

section
/-! What a served request does, read off its body on the state `s`: the reply on a port without the queue summary, a
refusal that changes nothing, and the refusal of a record that is not in use. -/

namespace Sys2Proof.Machine

/-- R91: only the feeder port's answers end with the queue summary. -/
theorem State.withSummary_of_ne_feeder (s : State) {port : Port} (r : Reply) (hp : port ≠ .f) :
    s.withSummary port r = r := if_neg hp

section Served

variable {i : Instr} {h : Header} {body : State → Reply × State} {s : State}

/-- A served request of the planner, the arm or the tracker answers with its body's reply and leaves its body's state. -/
theorem exec_of_body {r : Reply} {u : State} (hx : exec i s = serve i body s) (hh : i.header = some h)
    (hs : s.serves i = true) (hb : IgnoresPortUnit body) (hp : h.port ≠ .f) (he : body s = (r, u)) :
    ∃ t, exec i s = .next t ∧ Answered s i h t r ∧ t = u.withPortUnitOf t := by
  obtain ⟨t, hnext, hans, hframe⟩ := serve_body i h body s hh hs hb
  rw [he] at hans hframe
  rw [State.withSummary_of_ne_feeder _ _ hp] at hans
  exact ⟨t, hx.trans hnext, hans, hframe⟩

/-- A request whose body replies and leaves the state as it is. -/
theorem answersUnchanged_of_body {r : Reply} (hx : exec i s = serve i body s) (hh : i.header = some h)
    (hs : s.serves i = true) (hb : IgnoresPortUnit body) (hp : h.port ≠ .f) (he : body s = (r, s)) :
    AnswersUnchanged s i h r := exec_of_body hx hh hs hb hp he

/-- R174: a reference event while strict references is on reports a minor fault of the flag REFERENCE. -/
theorem State.referenceEvent_on (s : State) (port : Port) (slot : Option Nat) (recordType identifier : Nat)
    (hstrict : s.params.strictReferences = true) :
    s.referenceEvent port slot recordType identifier =
      { s with
        flags := { s.flags with reference := true }
        processCapture := offered s.processCapture
          { cls := .reference, severity := 1, time := s.siteTime, slot := slot, course := none, port := some port
            detail := (recordType * 65536 + identifier : Nat) }
        attn := (s.referenceEvent port slot recordType identifier).attn
        haltReq := (s.referenceEvent port slot recordType identifier).haltReq } := by
  rw [State.referenceEvent, if_pos hstrict]
  rfl

/-- R1, R174: a request whose body finds no record of a kind that is no slot. -/
theorem refusesNoRecord_of_body {recordType identifier : Nat} (hx : exec i s = serve i body s)
    (hh : i.header = some h) (hs : s.serves i = true) (hb : IgnoresPortUnit body) (hp : h.port ≠ .f)
    (he : body s = s.refuseNoRecord h.port none recordType identifier []) :
    RefusesNoRecord s i h (recordType * 65536 + identifier : Nat) := by
  obtain ⟨t, hnext, hans, hframe⟩ := exec_of_body hx hh hs hb hp he
  refine ⟨t, hnext, hans, fun hoff => ?_, fun hon => ?_⟩
  · rwa [State.referenceEvent_off _ _ _ _ _ hoff] at hframe
  · rw [State.referenceEvent_on _ _ _ _ _ hon] at hframe
    exact ⟨congrArg State.flags hframe, congrArg State.processCapture hframe, by rw [hframe]; rfl⟩

end Served

/-- Two tables with the same first condition, where the outcomes of the one give those of the other. -/
theorem FirstOf.imp_cons {condition outcome outcome' : Prop} {rest rest' : List (Prop × Prop)}
    (houtcome : outcome → outcome') (hrest : FirstOf rest → FirstOf rest')
    (h : FirstOf ((condition, outcome) :: rest)) : FirstOf ((condition, outcome') :: rest') :=
  ⟨fun hc => houtcome (h.1 hc), fun hc => hrest (h.2 hc)⟩

/-! ### Walls and features of a state that another Port Unit is put into -/

theorem State.wall_of_withPortUnitOf {t u : State} (ht : t = u.withPortUnitOf t) (w : Nat) : t.wall w = u.wall w := by
  rw [ht]
  rfl

theorem State.feature_of_withPortUnitOf {t u : State} (ht : t = u.withPortUnitOf t) (k : Nat) :
    t.feature k = u.feature k := by
  rw [ht]
  rfl

/-- A body that changes walls and features alone leaves, with its service, everything else but the Port Unit. -/
theorem State.frame_of_walls_and_features {s t u : State} (ht : t = u.withPortUnitOf t)
    (hu : u = { s with walls := u.walls, features := u.features }) :
    t = { s.withPortUnitOf t with walls := t.walls, features := t.features } := by
  rw [hu] at ht
  rw [ht]
  rfl

end Sys2Proof.Machine
end

section
/-! Walls and openings: the lowest free index, the chain's features, the built height (01 R7, R8, R10). -/

namespace Sys2Proof.Machine

/-! ### The lowest free identifier -/

section Unused

variable {α : Type} {t : List (Nat × α)} {first count k : Nat}

theorem Table.head?_unused_of_lowest (hlo : first ≤ k) (hhi : k < first + count) (hfree : Table.find t k = none)
    (hlow : ∀ j, first ≤ j → j < k → Table.find t j ≠ none) :
    (Table.unused t first count).head? = some k := by
  rw [Table.unused, List.head?_filter, List.find?_range'_eq_some]
  refine ⟨by simp [hfree], List.mem_range'_1.mpr ⟨hlo, hhi⟩, fun j hj hjk => ?_⟩
  simpa [Option.isSome_iff_ne_none] using hlow j hj hjk

theorem Table.head?_unused_of_full (hfull : ∀ j, first ≤ j → j < first + count → Table.find t j ≠ none) :
    (Table.unused t first count).head? = none := by
  rw [Table.unused, List.head?_filter, List.find?_range'_eq_none]
  intro j hlo hhi
  simpa [Option.isSome_iff_ne_none] using hfull j hlo hhi

end Unused

/-! ### Chains -/

/-- R5: the pool after the features of a chain have gone back to it. -/
theorem find_freeFeatures (features chain : List (Nat × Feature)) (k : Nat) :
    Table.find (freeFeatures features chain) k =
      if chain.any (fun e => e.1 = k) then none else Table.find features k := by
  induction chain generalizing features with
  | nil => rfl
  | cons e chain ih =>
    rw [show freeFeatures features (e :: chain) = freeFeatures (Table.free features e.1) chain from rfl, ih,
      List.any_cons]
    by_cases hk : e.1 = k
    · simp [hk]
    · rw [Table.find_free_other features (Ne.symm hk), decide_eq_false hk, Bool.false_or]

theorem followsNew_iff (xa zSill : Int) (e : Nat × Feature) :
    followsNew xa zSill e = true ↔ xa < e.2.xa ∨ (e.2.xa = xa ∧ zSill < e.2.zSill) := by simp [followsNew]

theorem Feature.overlaps_iff (f g : Feature) :
    f.overlaps g = true ↔ f.xa < g.xb ∧ g.xa < f.xb ∧ f.zSill < g.zHead ∧ g.zSill < f.zHead := by
  simp [Feature.overlaps]

/-- R9: no feature of a chain shares a tenth of both spans with the new one. -/
theorem find?_overlaps_eq_none {new : Feature} {chain : List (Nat × Feature)}
    (h : ∀ e ∈ chain,
      ¬ (new.xa < e.2.xb ∧ e.2.xa < new.xb ∧ new.zSill < e.2.zHead ∧ e.2.zSill < new.zHead)) :
    chain.find? (fun e => new.overlaps e.2) = none :=
  List.find?_eq_none.mpr fun e he => mt (Feature.overlaps_iff new e.2).mp (h e he)

/-- R9: the first feature of a chain that shares a tenth of both spans with the new one. -/
theorem find?_overlaps_eq_some {new : Feature} {before after : List (Nat × Feature)} {e : Nat × Feature}
    (hfirst : ∀ b ∈ before,
      ¬ (new.xa < b.2.xb ∧ b.2.xa < new.xb ∧ new.zSill < b.2.zHead ∧ b.2.zSill < new.zHead))
    (hover : new.xa < e.2.xb ∧ e.2.xa < new.xb ∧ new.zSill < e.2.zHead ∧ e.2.zSill < new.zHead) :
    (before ++ e :: after).find? (fun e => new.overlaps e.2) = some e := by
  rw [List.find?_append, find?_overlaps_eq_none hfirst, Option.none_or]
  exact List.find?_cons_of_pos (p := fun (e : Nat × Feature) => new.overlaps e.2)
    ((Feature.overlaps_iff new e.2).mpr hover)

/-- R10: the part of a chain before the first feature that follows the new one. -/
theorem takeWhile_not_followsNew {xa zSill : Int} {before after : List (Nat × Feature)}
    (hbefore : ∀ e ∈ before, e.2.xa < xa ∨ (e.2.xa = xa ∧ e.2.zSill ≤ zSill))
    (hafter : ∀ e, after.head? = some e → xa < e.2.xa ∨ (e.2.xa = xa ∧ zSill < e.2.zSill)) :
    (before ++ after).takeWhile (fun e => !followsNew xa zSill e) = before := by
  have hstays : ∀ e ∈ before, (!followsNew xa zSill e) = true := by
    intro e he
    have := hbefore e he
    rw [Bool.not_eq_true', ← Bool.not_eq_true, followsNew_iff]
    omega
  rw [List.takeWhile_append_of_pos hstays]
  cases after with
  | nil => simp
  | cons e after => simp [(followsNew_iff xa zSill e).mpr (hafter e rfl)]

/-! ### The built height (R8) -/

theorem higher_of_le {best : Option Course} {c : Course} (h : ∀ b, best = some b → b = c ∨ b.number < c.number) :
    higher best c = some c := by
  cases best with
  | none => rfl
  | some b =>
    rcases h b rfl with rfl | hlt
    · simp [higher]
    · simp [higher, hlt]

theorem higher_of_ge {c d : Course} (h : d = c ∨ d.number < c.number) : higher (some c) d = some c := by
  rcases h with rfl | hlt
  · simp [higher]
  · simp [higher, Nat.lt_asymm hlt]

theorem higher_eq_or (best : Option Course) (c : Course) : higher best c = some c ∨ higher best c = best := by
  cases best with
  | none => exact .inl rfl
  | some b =>
    by_cases hlt : b.number < c.number
    · exact .inl (by simp [higher, hlt])
    · exact .inr (by simp [higher, hlt])

/-- Of courses among which one has the highest number, that one is kept, wherever it stands. -/
theorem foldl_higher_eq {c : Course} {l : List Course} {best : Option Course}
    (hl : ∀ d ∈ l, d = c ∨ d.number < c.number) (hbest : ∀ b, best = some b → b = c ∨ b.number < c.number)
    (hc : c ∈ l ∨ best = some c) : l.foldl higher best = some c := by
  induction l generalizing best with
  | nil => simpa using hc
  | cons d l ih =>
    have hd := hl d List.mem_cons_self
    refine ih (fun x hx => hl x (List.mem_cons_of_mem _ hx)) (fun b hb => ?_) ?_
    · rcases higher_eq_or best d with h | h <;> rw [h] at hb
      · exact Option.some.inj hb ▸ hd
      · exact hbest b hb
    · rcases hc with hmem | rfl
      · rcases List.mem_cons.mp hmem with rfl | hmem
        · exact .inr (higher_of_le hbest)
        · exact .inl hmem
      · exact .inr (higher_of_ge hd)

/-- R8: a wall that holds no course is built up to its settled top. -/
theorem State.builtHeight_of_no_course {s : State} {w : Nat} (r : Wall) (hnone : ∀ e ∈ s.courses, e.2.wall ≠ w) :
    s.builtHeight w r = r.settledTop := by
  have hfilter : s.courses.filter (fun e => e.2.wall = w) = [] := by simpa using hnone
  simp [State.builtHeight, State.highestCourse, hfilter]

/-- R8: a wall that holds courses is built up to the top of the one with the highest number. -/
theorem State.builtHeight_of_highest {s : State} {w : Nat} (r : Wall) {e : Nat × Course} (he : e ∈ s.courses)
    (hw : e.2.wall = w) (hhigh : ∀ d ∈ s.courses, d.2.wall = w → d = e ∨ d.2.number < e.2.number) :
    s.builtHeight w r = s.topOf e.2 := by
  have hhighest : s.highestCourse w = some e.2 := by
    refine foldl_higher_eq (fun c hc => ?_) (by simp) (.inl ?_)
    · obtain ⟨d, hd, rfl⟩ := List.mem_map.mp hc
      obtain ⟨hd, hdw⟩ := List.mem_filter.mp hd
      exact (hhigh d hd (of_decide_eq_true hdw)).imp_left (congrArg Prod.snd)
    · exact List.mem_map_of_mem (List.mem_filter.mpr ⟨he, decide_eq_true hw⟩)
  simp [State.builtHeight, hhighest]

end Sys2Proof.Machine
end

section
/-! WALL CLOSE (01 R4, R5): what its body does in each case, and the statement about it. -/

namespace Sys2Proof.Machine

/-- R1: the wall is out of range. -/
theorem wallClose_outOfRange {w : Nat} (s : State) (hw : 3 < w) :
    wallClose w s = (Reply.refuse .outOfRange, s) := if_pos hw

/-- R1: the wall is CLOSED. -/
theorem wallClose_closed {w : Nat} {s : State} (hw : w ≤ 3) (hr : s.wall w = none) :
    wallClose w s = s.refuseNoRecord .p none 1 w [] := by
  simp [wallClose, withWall, Nat.not_lt.mpr hw, hr]

section OpenWall

variable {w : Nat} {r : Wall} {s : State}

/-- R4: a check refuses. -/
theorem wallClose_refused {reason : ReasonCode} (hw : w ≤ 3) (hr : s.wall w = some r)
    (hreason : wallCloseRefusal w r s = some reason) : wallClose w s = (Reply.refuse reason, s) := by
  simp [wallClose, withWall, Nat.not_lt.mpr hw, hr, hreason]

/-- R5: no check refuses. -/
theorem wallClose_closes (hw : w ≤ 3) (hr : s.wall w = some r) (hpass : wallCloseRefusal w r s = none) :
    wallClose w s =
      (Reply.okWith (u8 (s.chain r).length),
        { s with features := freeFeatures s.features (s.chain r), walls := Table.free s.walls w }) := by
  simp [wallClose, withWall, Nat.not_lt.mpr hw, hr, hpass]

/-- R4: a live course of the wall, as the check looks for it. -/
theorem any_live_course_iff :
    s.courses.any (fun e => e.2.wall = w ∧ e.2.live) = true ↔
      ∃ e ∈ s.courses, e.2.wall = w ∧ e.2.live = true := by
  simp

/-- R4: an open load whose course is of the wall. -/
theorem load_on_wall_iff :
    (s.load.any fun l => (s.course l.entry).any fun c => c.wall = w) = true ↔
      ∃ l c, s.load = some l ∧ s.course l.entry = some c ∧ c.wall = w := by
  simp [Option.any_eq_true]

/-- R4: a feature of the chain that bears a lintel. -/
theorem any_lintel_iff :
    (s.chain r).any (fun e => e.2.lintel.isSome) = true ↔ ∃ e ∈ s.chain r, e.2.lintel ≠ none := by
  simp [Option.isSome_iff_ne_none]

/-- R4: the four checks in order, the first that holds refuses. -/
theorem wallCloseRefusal_firstOf (w : Nat) (r : Wall) (s : State) :
    FirstOf
      [(∃ e ∈ s.courses, e.2.wall = w ∧ e.2.live = true, wallCloseRefusal w r s = some .liveCourse),
        (∃ l c, s.load = some l ∧ s.course l.entry = some c ∧ c.wall = w, wallCloseRefusal w r s = some .loading),
        (∃ e ∈ s.chain r, e.2.lintel ≠ none, wallCloseRefusal w r s = some .lintel),
        (s.station.wall = w ∧ (s.station.state = .parked ∨ s.station.state = .draining),
          wallCloseRefusal w r s = some .station)] := by
  simp only [← any_live_course_iff, ← load_on_wall_iff, ← any_lintel_iff]
  refine ⟨fun hlive => if_pos hlive, fun hlive => ?_⟩
  rw [wallCloseRefusal, if_neg hlive]
  refine ⟨fun hload => if_pos hload, fun hload => ?_⟩
  rw [if_neg hload]
  refine ⟨fun hlintel => if_pos hlintel, fun hlintel => ?_⟩
  rw [if_neg hlintel]
  exact ⟨fun hstation => if_pos hstation, fun _ => trivial⟩

/-- R4: no check refuses. -/
theorem wallCloseRefusal_none (hlive : ∀ e ∈ s.courses, e.2.wall = w → e.2.live = false)
    (hload : ∀ l, s.load = some l → ∀ c, s.course l.entry = some c → c.wall ≠ w)
    (hlintel : ∀ e ∈ s.chain r, e.2.lintel = none)
    (hstation : s.station.wall = w → s.station.state ≠ .parked ∧ s.station.state ≠ .draining) :
    wallCloseRefusal w r s = none := by
  rw [wallCloseRefusal, if_neg, if_neg, if_neg, if_neg]
  · rintro ⟨hw, hstate⟩
    exact hstate.elim (hstation hw).1 (hstation hw).2
  · rw [any_lintel_iff]
    rintro ⟨e, he, hsome⟩
    exact hsome (hlintel e he)
  · rw [load_on_wall_iff]
    rintro ⟨l, c, hl, hc, hw⟩
    exact hload l hl c hc hw
  · rw [any_live_course_iff]
    rintro ⟨e, he, hw, htrue⟩
    exact absurd htrue (by simp [hlive e he hw])

end OpenWall

/-! ### The request -/

/-- R4: a check's refusal is the answer, and no record changes. -/
theorem wallClose_answersUnchanged {tag : Byte} {w : Nat} {s : State} {answer : Reply}
    (hs : s.serves (.wallClose tag w) = true) (he : wallClose w s = (answer, s)) :
    AnswersUnchanged s (.wallClose tag w) ⟨.p, tag, 2⟩ answer :=
  answersUnchanged_of_body rfl rfl hs (wallClose_ignores w) nofun he

/-- Settles O17: the body's case for each check, and the pool and the walls that the last case leaves. -/
theorem wallCloseFreesTheOpenings : Obligations.WallCloseFreesTheOpenings := by
  refine ⟨?_, ?_, ?_⟩
  · intro tag w r s hs hw hr hlive hload hlintel hstation
    have hpass := wallCloseRefusal_none hlive hload hlintel hstation
    obtain ⟨t, hnext, hans, ht⟩ :=
      exec_of_body rfl rfl hs (wallClose_ignores w) nofun (wallClose_closes hw hr hpass)
    have hwall := State.wall_of_withPortUnitOf ht
    have hfeature := State.feature_of_withPortUnitOf ht
    exact ⟨t, hnext, hans, (hwall w).trans (Table.find_free_same _ _),
      fun v hv => (hwall v).trans (Table.find_free_other _ hv),
      fun k => (hfeature k).trans (find_freeFeatures _ _ k), State.frame_of_walls_and_features ht rfl⟩
  · rintro tag w s _ _ rfl rfl hs
    refine ⟨fun hw => wallClose_answersUnchanged hs (wallClose_outOfRange s hw),
      fun hw => ⟨fun hr => ?_, fun _ => trivial⟩⟩
    exact refusesNoRecord_of_body rfl rfl hs (wallClose_ignores w) nofun (wallClose_closed (Nat.not_lt.mp hw) hr)
  · rintro tag w r s _ _ rfl rfl hs hw hr
    have hrefuses : ∀ reason, wallCloseRefusal w r s = some reason →
        AnswersUnchanged s (.wallClose tag w) ⟨.p, tag, 2⟩ (Reply.refuse reason) :=
      fun _ hreason => wallClose_answersUnchanged hs (wallClose_refused hw hr hreason)
    exact FirstOf.imp_cons (hrefuses _) (FirstOf.imp_cons (hrefuses _) (FirstOf.imp_cons (hrefuses _)
      (FirstOf.imp_cons (hrefuses _) id))) (wallCloseRefusal_firstOf w r s)

end Sys2Proof.Machine
end

section
/-! FEATURE ADD (01 R8 to R10): its body in each case, what the insertion does to the pool and the walls, and the
statement about it. -/

namespace Sys2Proof.Machine

/-! ### The checks (R1, R9) -/

/-- R1: the wall or the z span is out of range. -/
theorem featureAdd_outOfRange {w : Nat} {zSill zHead : Int} (xa xb : Int) (s : State)
    (h : ¬ (w ≤ 3 ∧ 0 ≤ zSill ∧ zSill < zHead ∧ zHead ≤ 8388607)) :
    featureAdd w xa xb zSill zHead s = (Reply.refuse .outOfRange, s) := if_pos (by omega)

/-- R1: the wall is CLOSED. -/
theorem featureAdd_closed {w : Nat} {zSill zHead : Int} (xa xb : Int) {s : State}
    (h : w ≤ 3 ∧ 0 ≤ zSill ∧ zSill < zHead ∧ zHead ≤ 8388607) (hr : s.wall w = none) :
    featureAdd w xa xb zSill zHead s = s.refuseNoRecord .p none 1 w [] := by
  rw [featureAdd, if_neg (by omega), withWall, hr]

/-- The record that FEATURE ADD makes, before it is linked. -/
def Feature.opening (w : Nat) (xa xb zSill zHead : Int) : Feature :=
  { wall := w, xa := xa, xb := xb, zSill := zSill, zHead := zHead, lintel := none, next := 0 }

/-- On an OPEN wall and with a z span in range, the x span is left to check. -/
theorem featureAdd_open {w : Nat} {xa xb zSill zHead : Int} {r : Wall} {s : State}
    (h : w ≤ 3 ∧ 0 ≤ zSill ∧ zSill < zHead ∧ zHead ≤ 8388607) (hr : s.wall w = some r) :
    featureAdd w xa xb zSill zHead s =
      if xa < 0 ∨ xb ≤ xa ∨ r.length < xb then (Reply.refuse .outOfRange, s)
      else featureInsert w r (Feature.opening w xa xb zSill zHead) s := by
  rw [featureAdd, if_neg (by omega), withWall, hr]
  rfl

section Insert

variable {w k : Nat} {r : Wall} {new : Feature} {s : State}

/-- R9: the opening would begin below the built height. -/
theorem featureInsert_built (hbuilt : new.zSill < s.builtHeight w r) :
    featureInsert w r new s = (Reply.refuse .built, s) := if_pos hbuilt

/-- R9: the first feature of the chain that the new one overlaps. -/
theorem featureInsert_overlap {e : Nat × Feature} (hbuilt : ¬ new.zSill < s.builtHeight w r)
    (he : (s.chain r).find? (fun e => new.overlaps e.2) = some e) :
    featureInsert w r new s = (Reply.refusedWith .overlap (u8 e.1), s) := by
  rw [featureInsert, if_neg hbuilt, he]

/-- R9: no index is free. -/
theorem featureInsert_noSpace (hbuilt : ¬ new.zSill < s.builtHeight w r)
    (hclear : (s.chain r).find? (fun e => new.overlaps e.2) = none)
    (hfull : (Table.unused s.features 1 featureCapacity).head? = none) :
    featureInsert w r new s = (Reply.refuse .noSpace, s) := by
  rw [featureInsert, if_neg hbuilt, hclear]
  dsimp only
  rw [hfull]

/-- R10: a feature put at index `k` of the pool, between the parts of its wall's chain before and after it. -/
def State.linkFeature (s : State) (w k : Nat) (new : Feature) (before after : List (Nat × Feature)) : State :=
  let linked := s.relink w (before.getLast?.map Prod.fst) k
  { linked with features := Table.put linked.features k { new with next := (after.head?.map Prod.fst).getD 0 } }

/-- R10: the checks pass, `k` is the lowest free index, and the chain's parts before and after are as R10 says. -/
theorem featureInsert_links {before after : List (Nat × Feature)} (hbuilt : ¬ new.zSill < s.builtHeight w r)
    (hclear : (s.chain r).find? (fun e => new.overlaps e.2) = none)
    (hk : (Table.unused s.features 1 featureCapacity).head? = some k) (hchain : s.chain r = before ++ after)
    (hbefore : ∀ e ∈ before, e.2.xa < new.xa ∨ (e.2.xa = new.xa ∧ e.2.zSill ≤ new.zSill))
    (hafter : ∀ e, after.head? = some e → new.xa < e.2.xa ∨ (e.2.xa = new.xa ∧ new.zSill < e.2.zSill)) :
    featureInsert w r new s = (Reply.okWith (u8 k), s.linkFeature w k new before after) := by
  rw [featureInsert, if_neg hbuilt, hclear]
  dsimp only
  rw [hk, hchain]
  dsimp only
  rw [takeWhile_not_followsNew hbefore hafter, List.drop_left]
  rfl

end Insert

/-! ### What the insertion leaves (R10) -/

section Link

variable {w k : Nat} {new : Feature} {before after : List (Nat × Feature)} {s : State}

theorem State.relink_frame (s : State) (w : Nat) (b : Option Nat) (index : Nat) :
    s.relink w b index =
      { s with walls := (s.relink w b index).walls, features := (s.relink w b index).features } := by
  cases b <;> rfl

/-- R10: an insertion changes walls and features alone. -/
theorem State.linkFeature_frame :
    s.linkFeature w k new before after =
      { s with
        walls := (s.linkFeature w k new before after).walls
        features := (s.linkFeature w k new before after).features } := by
  unfold State.linkFeature
  dsimp only
  rw [State.relink_frame]

@[simp] theorem State.linkFeature_feature_same :
    (s.linkFeature w k new before after).feature k =
      some { new with next := (after.head?.map Prod.fst).getD 0 } := Table.find_put_same _ _ _

/-- R10: the link to the new feature touches no other wall. -/
theorem State.linkFeature_wall_other {v : Nat} (hv : v ≠ w) :
    (s.linkFeature w k new before after).wall v = s.wall v := by
  rw [State.linkFeature]
  cases before.getLast? with
  | none => exact Table.find_update_other s.walls (fun r => { r with chainHead := k }) hv
  | some b => rfl

/-- R10: the wall names the feature that is first in its chain. -/
theorem State.linkFeature_wall_first {r : Wall} (hr : s.wall w = some r) :
    (s.linkFeature w k new [] after).wall w = some { r with chainHead := k } := by
  rw [State.wall] at hr
  simp [State.linkFeature, State.relink, State.wall, hr]

/-- R10: no other feature names the one that is first in its chain. -/
theorem State.linkFeature_feature_first {j : Nat} (hj : j ≠ k) :
    (s.linkFeature w k new [] after).feature j = s.feature j := Table.find_put_other s.features _ hj

section After

variable {e : Nat × Feature} (he : before.getLast? = some e)
include he

/-- R10: where a feature stands before the new one, the wall keeps its chain head. -/
theorem State.linkFeature_wall_after (v : Nat) : (s.linkFeature w k new before after).wall v = s.wall v := by
  rw [State.linkFeature, he]
  rfl

/-- R10: the feature before names the new one. -/
theorem State.linkFeature_feature_after {j : Nat} (hj : j ≠ k) :
    (s.linkFeature w k new before after).feature j =
      if j = e.1 then (s.feature j).map (fun f => { f with next := k }) else s.feature j := by
  rw [State.linkFeature, he, State.feature]
  exact (Table.find_put_other _ _ hj).trans (Table.find_update s.features e.1 j fun f => { f with next := k })

end After

end Link

/-! ### The request -/

section Request

variable {tag : Byte} {w : Nat} {xa xb zSill zHead : Int} {s : State}

/-- R9: a check's refusal is the answer, and no record changes. -/
theorem featureAdd_answersUnchanged {answer : Reply} (hs : s.serves (.featureAdd tag w xa xb zSill zHead) = true)
    (he : featureAdd w xa xb zSill zHead s = (answer, s)) :
    AnswersUnchanged s (.featureAdd tag w xa xb zSill zHead) ⟨.p, tag, 4⟩ answer :=
  answersUnchanged_of_body rfl rfl hs (featureAdd_ignores w xa xb zSill zHead) nofun he

/-- R1, R9: the checks on an OPEN wall, in order. -/
theorem featureAdd_refusals {r : Wall} (hw : w ≤ 3) (hr : s.wall w = some r) :
    FirstOf
      [(¬ (0 ≤ zSill ∧ zSill < zHead ∧ zHead ≤ 8388607),
          featureAdd w xa xb zSill zHead s = (Reply.refuse .outOfRange, s)),
        (¬ (0 ≤ xa ∧ xa < xb ∧ xb ≤ r.length),
          featureAdd w xa xb zSill zHead s = (Reply.refuse .outOfRange, s)),
        (zSill < s.builtHeight w r, featureAdd w xa xb zSill zHead s = (Reply.refuse .built, s)),
        (∃ e ∈ s.chain r, xa < e.2.xb ∧ e.2.xa < xb ∧ zSill < e.2.zHead ∧ e.2.zSill < zHead,
          ∀ before e after, s.chain r = before ++ e :: after →
            (∀ b ∈ before, ¬ (xa < b.2.xb ∧ b.2.xa < xb ∧ zSill < b.2.zHead ∧ b.2.zSill < zHead)) →
            xa < e.2.xb ∧ e.2.xa < xb ∧ zSill < e.2.zHead ∧ e.2.zSill < zHead →
            featureAdd w xa xb zSill zHead s = (Reply.refusedWith .overlap (u8 e.1), s)),
        (∀ k, 1 ≤ k → k ≤ 64 → s.feature k ≠ none,
          featureAdd w xa xb zSill zHead s = (Reply.refuse .noSpace, s))] := by
  refine ⟨fun hz => featureAdd_outOfRange xa xb s (by omega), fun hz => ?_⟩
  rw [featureAdd_open ⟨hw, not_not.mp hz⟩ hr]
  refine ⟨fun hx => if_pos (by omega), fun hx => ?_⟩
  rw [if_neg (by omega)]
  refine ⟨fun hbuilt => featureInsert_built hbuilt, fun hbuilt =>
    ⟨fun _ before e after hchain hfirst hover => ?_, fun hclear => ?_⟩⟩
  · exact featureInsert_overlap hbuilt (hchain ▸ find?_overlaps_eq_some hfirst hover)
  · refine ⟨fun hfull => featureInsert_noSpace hbuilt ?_ ?_, fun _ => trivial⟩
    · exact find?_overlaps_eq_none fun e he hover => hclear ⟨e, he, hover⟩
    · exact Table.head?_unused_of_full fun j hlo hhi => hfull j hlo (by simp [featureCapacity] at hhi; omega)

end Request

/-- Settles O18: the checks in the body's order, the insertion at the lowest free index, and the built height. -/
theorem featureAddLinksTheOpening : Obligations.FeatureAddLinksTheOpening := by
  refine ⟨?_, ?_, ?_, ?_, ?_⟩
  · intro tag w xa xb zSill zHead r k before after s hs hw hr hxa hxab hxb hsill hz hhead hbuilt hclear hk1 hk64 hfree
      hlow hchain hbefore hafter
    have hlowest : (Table.unused s.features 1 featureCapacity).head? = some k :=
      Table.head?_unused_of_lowest hk1 (by simp [featureCapacity]; omega) hfree hlow
    have hbody : featureAdd w xa xb zSill zHead s =
        (Reply.okWith (u8 k), s.linkFeature w k (Feature.opening w xa xb zSill zHead) before after) := by
      rw [featureAdd_open ⟨hw, hsill, hz, hhead⟩ hr, if_neg (by omega)]
      exact featureInsert_links (Int.not_lt.mpr hbuilt) (find?_overlaps_eq_none hclear) hlowest hchain hbefore hafter
    obtain ⟨t, hnext, hans, ht⟩ :=
      exec_of_body rfl rfl hs (featureAdd_ignores w xa xb zSill zHead) nofun hbody
    have hwall := State.wall_of_withPortUnitOf ht
    have hfeature := State.feature_of_withPortUnitOf ht
    refine ⟨t, hnext, hans, (hfeature k).trans State.linkFeature_feature_same, ?_, fun e he => ?_,
      fun v hv => (hwall v).trans (State.linkFeature_wall_other hv),
      State.frame_of_walls_and_features ht State.linkFeature_frame⟩
    · rintro rfl
      exact ⟨(hwall w).trans (State.linkFeature_wall_first hr),
        fun j hj => (hfeature j).trans (State.linkFeature_feature_first hj)⟩
    · exact ⟨((hwall w).trans (State.linkFeature_wall_after he w)).trans hr,
        fun j hj => (hfeature j).trans (State.linkFeature_feature_after he hj)⟩
  · rintro tag w xa xb zSill zHead s _ _ rfl rfl hs
    refine ⟨fun hz => featureAdd_answersUnchanged hs (featureAdd_outOfRange xa xb s hz),
      fun hz => ⟨fun hr => ?_, fun _ => trivial⟩⟩
    exact refusesNoRecord_of_body rfl rfl hs (featureAdd_ignores w xa xb zSill zHead) nofun
      (featureAdd_closed xa xb (not_not.mp hz) hr)
  · rintro tag w xa xb zSill zHead r s _ _ rfl rfl hs hw hr
    have hanswers : ∀ answer, featureAdd w xa xb zSill zHead s = (answer, s) →
        AnswersUnchanged s (.featureAdd tag w xa xb zSill zHead) ⟨.p, tag, 4⟩ answer :=
      fun _ he => featureAdd_answersUnchanged hs he
    exact FirstOf.imp_cons (hanswers _) (FirstOf.imp_cons (hanswers _) (FirstOf.imp_cons (hanswers _)
      (FirstOf.imp_cons
        (fun hbody before e after hchain hfirst hover => hanswers _ (hbody before e after hchain hfirst hover))
        (FirstOf.imp_cons (hanswers _) id)))) (featureAdd_refusals hw hr)
  · exact fun s w r => State.builtHeight_of_no_course r
  · exact fun s w r e he hw hhigh => State.builtHeight_of_highest r he hw hhigh

end Sys2Proof.Machine
end

section
/-! Records of courses, runs and slots: what a table read by identifier shows after a filter or a change of its records,
and the course entry that a closed load leaves (02 R27 to R30). -/

namespace Sys2Proof.Machine

/-! ### Tables -/

section Table

variable {α : Type}

/-- A table from which the identifiers outside `p` are taken. -/
theorem Table.find_filter_key (t : List (Nat × α)) (p : Nat → Bool) (k : Nat) :
    Table.find (t.filter fun e => p e.1) k = if p k then Table.find t k else none := by
  induction t with
  | nil => simp
  | cons e t ih =>
    obtain ⟨j, v⟩ := e
    by_cases hj : j = k
    · subst hj
      by_cases hp : p j = true <;> simp [hp, ih]
    · by_cases hp : p j = true <;> simp [hp, hj, ih]

/-- A table whose records are changed, and whose identifiers are kept. -/
theorem Table.find_map_record (t : List (Nat × α)) {g : Nat × α → Nat × α} {f : α → α}
    (hg : ∀ e, g e = (e.1, f e.2)) (k : Nat) : Table.find (t.map g) k = (Table.find t k).map f := by
  induction t with
  | nil => rfl
  | cons e t ih =>
    rw [List.map_cons, hg, Table.find_cons, Table.find_cons, ih]
    by_cases hj : e.1 = k <;> simp [hj]

end Table

/-! ### Courses, runs and slots of a state that another Port Unit is put into -/

section PortUnit

variable {t u : State} (ht : t = u.withPortUnitOf t)
include ht

theorem State.course_of_withPortUnitOf (e : Nat) : t.course e = u.course e := by
  rw [ht]
  rfl

theorem State.run_of_withPortUnitOf (r : Nat) : t.run r = u.run r := by
  rw [ht]
  rfl

theorem State.slot_of_withPortUnitOf (id : Nat) : t.slot id = u.slot id := by
  rw [ht]
  rfl

/-- A body that changes the course table and the load record alone leaves, with its service, everything else but the
Port Unit. -/
theorem State.frame_of_courses_and_load {s : State} (hu : u = { s with courses := u.courses, load := u.load }) :
    t = { s.withPortUnitOf t with courses := t.courses, load := t.load } := by
  rw [hu] at ht
  rw [ht]
  rfl

end PortUnit

/-! ### A load that is closed without a course -/

/-- R27 to R30: the entry that the load names returns to EMPTY, every other keeps its record. -/
theorem State.dropLoad_course (s : State) (e : Nat) :
    s.dropLoad.course e = if s.load.any (fun l => l.entry = e) then none else s.course e := by
  unfold State.dropLoad
  cases hl : s.load with
  | none => rfl
  | some l =>
    by_cases he : l.entry = e
    · simp [State.course, he]
    · simpa [State.course, he] using Table.find_free_other s.courses (Ne.symm he)

@[simp] theorem State.dropLoad_load (s : State) : s.dropLoad.load = none := by
  rw [State.dropLoad_frame]

end Sys2Proof.Machine
end

section
/-! COURSE BEGIN (02 R22 to R25): the base z of the next course, the checks in order, and the statement about it. -/

namespace Sys2Proof.Machine

/-! ### The base z (R22) -/

section Base

variable {s : State} {w profile : Nat} {r : Wall}

/-- R22: a wall's first course stands on its bed. -/
theorem State.nextBaseZ_first (hfirst : r.nextCourse = 0) : s.nextBaseZ w r profile = (s.profile profile).bn :=
  if_pos hfirst

/-- R22: a course over a live one stands on its top. -/
theorem State.nextBaseZ_over_live {e : Nat} {c : Course} (hnext : r.nextCourse ≠ 0)
    (hlive : s.liveCourse w (r.nextCourse - 1) = some (e, c)) :
    s.nextBaseZ w r profile = c.baseZ + (s.kind c.kind).height + (s.profile profile).bn := by
  simp [State.nextBaseZ, State.topOf, hnext, hlive]

/-- R22: a course over a retired one stands on the settled top. -/
theorem State.nextBaseZ_over_retired (hnext : r.nextCourse ≠ 0)
    (hlive : s.liveCourse w (r.nextCourse - 1) = none) :
    s.nextBaseZ w r profile = r.settledTop + (s.profile profile).bn := by
  simp [State.nextBaseZ, hnext, hlive]

end Base

/-! ### The body -/

/-- R24: the checks in order, the first that holds refuses. -/
theorem courseBegin_refusals (w kind profile runCount : Nat) (s : State) :
    FirstOf
      [(¬ (w ≤ 3 ∧ kind ≤ 7 ∧ profile ≤ 3 ∧ 1 ≤ runCount ∧ runCount ≤ 8),
          courseBegin w kind profile runCount s = (Reply.refuse .outOfRange, s)),
        (s.wall w = none, courseBegin w kind profile runCount s = s.refuseNoRecord .p none 1 w []),
        (s.load ≠ none, courseBegin w kind profile runCount s = (Reply.refuse .busy, s)),
        (Table.find s.kinds kind = none,
          courseBegin w kind profile runCount s = (Reply.refusedWith .undefined (u8 kind), s)),
        (Table.find s.profiles profile = none,
          courseBegin w kind profile runCount s = (Reply.refusedWith .undefined (u8 profile), s)),
        (∃ r, s.wall w = some r ∧ r.nextCourse = 255,
          courseBegin w kind profile runCount s = (Reply.refuse .courseLimit, s)),
        (∀ e < 48, s.course e ≠ none, courseBegin w kind profile runCount s = (Reply.refuse .noSpace, s))] := by
  refine ⟨fun hrange => if_pos (by omega), fun hrange => ?_⟩
  rw [courseBegin, if_neg (by omega)]
  refine ⟨fun hr => by rw [withWall, hr], fun hr => ?_⟩
  obtain ⟨r, hr⟩ := Option.ne_none_iff_exists'.mp hr
  rw [withWall, hr]
  simp only [Option.isSome_iff_ne_none, Option.isNone_iff_eq_none]
  refine ⟨fun hload => if_pos hload, fun hload => ?_⟩
  rw [if_neg hload]
  refine ⟨fun hkind => if_pos hkind, fun hkind => ?_⟩
  rw [if_neg hkind]
  refine ⟨fun hprofile => if_pos hprofile, fun hprofile => ?_⟩
  rw [if_neg hprofile]
  refine ⟨fun ⟨_, hr', hlast⟩ => if_pos (Option.some.inj hr' ▸ hlast), fun hlast => ?_⟩
  rw [if_neg fun h => hlast ⟨r, rfl, h⟩]
  refine ⟨fun hfull => ?_, fun _ => trivial⟩
  rw [Table.head?_unused_of_full fun e _ he => hfull e (by simpa [courseCapacity] using he)]

/-- R25: the state with the load opened and its entry LOADING. -/
def State.openLoad (s : State) (w kind profile runCount entry : Nat) (r : Wall) : State :=
  { s with
    courses := Table.put s.courses entry
      { state := .loading, wall := w, number := r.nextCourse, kind := kind, profile := profile
        baseZ := s.nextBaseZ w r profile, runCount := runCount, runIds := none }
    load := some { entry := entry, expected := runCount, received := [], deadline := s.siteTime + 5000 } }

/-- R25: no check refuses, and `entry` is the lowest EMPTY entry. -/
theorem courseBegin_opens {w kind profile runCount entry : Nat} {r : Wall} {s : State}
    (hrange : w ≤ 3 ∧ kind ≤ 7 ∧ profile ≤ 3 ∧ 1 ≤ runCount ∧ runCount ≤ 8) (hr : s.wall w = some r)
    (hload : s.load = none) (hkind : Table.find s.kinds kind ≠ none) (hprofile : Table.find s.profiles profile ≠ none)
    (hlast : r.nextCourse ≠ 255) (hentry : entry < 48) (hempty : s.course entry = none)
    (hlow : ∀ e < entry, s.course e ≠ none) :
    courseBegin w kind profile runCount s =
      (Reply.okWith (u8 r.nextCourse ++ u8 entry ++ s24Field (s.nextBaseZ w r profile)),
        s.openLoad w kind profile runCount entry r) := by
  have hlowest : (Table.unused s.courses 0 courseCapacity).head? = some entry :=
    Table.head?_unused_of_lowest (Nat.zero_le _) (by simpa [courseCapacity] using hentry) hempty
      fun e _ he => hlow e he
  rw [courseBegin, if_neg (by omega), withWall, hr]
  simp only [Option.isSome_iff_ne_none, Option.isNone_iff_eq_none]
  rw [if_neg (not_not.mpr hload), if_neg hkind, if_neg hprofile, if_neg hlast, hlowest]
  rfl

/-! ### The request -/

/-- Settles O22: the checks in the body's order, and the entry and the load that the last case leaves. -/
theorem courseBeginOpensTheLoad : Obligations.CourseBeginOpensTheLoad := by
  refine ⟨?_, ?_⟩
  · intro tag w kind profile runCount entry r s hs hw hkind hprofile hruns hruns' hr hload hdefined hdefined' hlast
      hentry hempty hlow
    obtain ⟨t, hnext, hans, ht⟩ :=
      exec_of_body rfl rfl hs (courseBegin_ignores w kind profile runCount) nofun
        (courseBegin_opens ⟨hw, hkind, hprofile, hruns, hruns'⟩ hr hload hdefined hdefined' hlast hentry hempty hlow)
    have hcourse := State.course_of_withPortUnitOf ht
    exact ⟨t, s.nextBaseZ w r profile, hnext, hans, State.nextBaseZ_first,
      fun hnext e c hlive => State.nextBaseZ_over_live hnext hlive,
      fun hnext hlive => State.nextBaseZ_over_retired hnext hlive,
      (hcourse entry).trans (Table.find_put_same _ _ _),
      fun e he => (hcourse e).trans (Table.find_put_other _ _ he),
      congrArg State.load ht, State.frame_of_courses_and_load ht rfl⟩
  · rintro tag w kind profile runCount s _ _ rfl rfl hs
    have hignores := courseBegin_ignores w kind profile runCount
    have hanswers : ∀ answer, courseBegin w kind profile runCount s = (answer, s) →
        AnswersUnchanged s (.courseBegin tag w kind profile runCount) ⟨.p, tag, 11⟩ answer :=
      fun _ he => answersUnchanged_of_body rfl rfl hs hignores nofun he
    exact FirstOf.imp_cons (hanswers _) (FirstOf.imp_cons (refusesNoRecord_of_body rfl rfl hs hignores nofun)
      (FirstOf.imp_cons (hanswers _) (FirstOf.imp_cons (hanswers _) (FirstOf.imp_cons (hanswers _)
        (FirstOf.imp_cons (hanswers _) (FirstOf.imp_cons (hanswers _) id))))))
      (courseBegin_refusals w kind profile runCount s)

end Sys2Proof.Machine
end

section
/-! COURSE ABANDON (02 R27): its body with and without a load, and the statement about it. -/

namespace Sys2Proof.Machine

/-- R27: no load is open. -/
theorem courseAbandon_noLoad {s : State} (hload : s.load = none) : courseAbandon s = (Reply.refuse .noLoad, s) := by
  simp [courseAbandon, hload]

/-- R27: the load is closed, and the answer names its course. -/
theorem courseAbandon_closes {s : State} {l : Load} {c : Course} (hload : s.load = some l)
    (hc : s.course l.entry = some c) : courseAbandon s = (Reply.okWith (u8 c.number), s.dropLoad) := by
  simp [courseAbandon, hload, hc]

/-- Settles O28: the two cases of the body, and the entry that a closed load leaves. -/
theorem courseAbandonClosesTheLoad : Obligations.CourseAbandonClosesTheLoad := by
  refine fun tag s hs => ⟨fun l c hload hc => ?_, fun hload => ?_⟩
  · obtain ⟨t, hnext, hans, ht⟩ :=
      exec_of_body rfl rfl hs courseAbandon_ignores nofun (courseAbandon_closes hload hc)
    have hcourse : ∀ e, t.course e = if l.entry = e then none else s.course e := fun e => by
      rw [State.course_of_withPortUnitOf ht, State.dropLoad_course, hload]
      simp
    have hclosed : t.load = none := (congrArg State.load ht).trans s.dropLoad_load
    refine ⟨t, hnext, hans, hclosed, (hcourse _).trans (if_pos rfl),
      fun e he => (hcourse e).trans (if_neg (Ne.symm he)), ?_⟩
    rw [← hclosed]
    exact State.frame_of_courses_and_load ht (by rw [State.dropLoad_frame])
  · exact answersUnchanged_of_body rfl rfl hs courseAbandon_ignores nofun (courseAbandon_noLoad hload)

end Sys2Proof.Machine
end

section
/-! COURSE RETIRE (02 R47 to R49): the courses found by wall and number, the time the slowest slot still has to stand,
what a retirement does to each table, and the statement about it. -/

namespace Sys2Proof.Machine

/-! ### Courses by wall and number (R21) -/

section Lookup

variable {s : State} {w n : Nat}

theorem State.heldCourse_some {e : Nat × Course} (h : s.heldCourse w n = some e) :
    e ∈ s.courses ∧ e.2.wall = w ∧ e.2.number = n :=
  ⟨List.mem_of_find?_eq_some h, by simpa using List.find?_some h⟩

theorem State.heldCourse_none_iff :
    s.heldCourse w n = none ↔ ∀ e ∈ s.courses, ¬ (e.2.wall = w ∧ e.2.number = n) := by
  simp only [State.heldCourse, List.find?_eq_none, decide_eq_true_eq]

theorem Course.live_iff (c : Course) : c.live = true ↔ c.state ≠ .loading := decide_eq_true_iff

theorem State.liveCourse_some {e : Nat × Course} (h : s.liveCourse w n = some e) :
    e ∈ s.courses ∧ e.2.wall = w ∧ e.2.number = n ∧ e.2.state ≠ .loading := by
  obtain ⟨hw, hn, hlive⟩ : e.2.wall = w ∧ e.2.number = n ∧ e.2.live = true := by simpa using List.find?_some h
  exact ⟨List.mem_of_find?_eq_some h, hw, hn, (Course.live_iff _).mp hlive⟩

theorem State.liveCourse_none_iff :
    s.liveCourse w n = none ↔ ∀ e ∈ s.courses, ¬ (e.2.wall = w ∧ e.2.number = n ∧ e.2.state ≠ .loading) := by
  simp only [State.liveCourse, List.find?_eq_none, decide_eq_true_eq, Course.live_iff]

end Lookup

/-! ### The time still to stand (R47) -/

theorem foldl_max_le_iff (l : List Nat) (a m : Nat) : l.foldl max a ≤ m ↔ a ≤ m ∧ ∀ x ∈ l, x ≤ m := by
  induction l generalizing a with
  | nil => simp
  | cons x l ih => simp [ih, and_assoc]

theorem largest_le_iff (l : List Nat) (m : Nat) : largest l ≤ m ↔ ∀ x ∈ l, x ≤ m := by
  simp [largest, foldl_max_le_iff]

theorem largest_eq_of_greatest {l : List Nat} {m : Nat} (hm : m ∈ l) (hgreatest : ∀ x ∈ l, x ≤ m) : largest l = m :=
  Nat.le_antisymm ((largest_le_iff l m).mpr hgreatest) ((largest_le_iff l _).mp (Nat.le_refl _) m hm)

/-- R47: a slot still has to stand when it was placed less than the set time ago. -/
theorem State.stillSetting_pos_iff (s : State) (sl : Slot) (left : Nat) :
    (0 < left ∧ s.stillSetting sl = left) ↔ ∃ placed, sl.placedTime = some placed ∧
      elapsed s.siteTime placed < s.params.setTime ∧ left = s.params.setTime - elapsed s.siteTime placed := by
  unfold State.stillSetting
  cases sl.placedTime with
  | none => exact ⟨fun ⟨hpos, hzero⟩ => absurd hzero (Nat.ne_of_lt hpos), nofun⟩
  | some placed =>
    simp only [Option.some.injEq, exists_eq_left']
    omega

/-- R47: the milliseconds that the slowest slot of a course still has to stand. -/
def State.courseSetting (s : State) (c : Course) : Nat := largest ((s.courseSlots c).map fun e => s.stillSetting e.2)

theorem State.courseSetting_eq_zero_iff (s : State) (c : Course) :
    s.courseSetting c = 0 ↔ ∀ e ∈ s.courseSlots c, s.stillSetting e.2 = 0 := by
  rw [State.courseSetting, ← Nat.le_zero, largest_le_iff, List.forall_mem_map]
  simp only [Nat.le_zero]

/-- R47: `left` is the time of a slot of the course that still has to stand. -/
def State.settingFor (s : State) (c : Course) (left : Nat) : Prop :=
  ∃ e ∈ s.courseSlots c, 0 < left ∧ s.stillSetting e.2 = left

theorem State.exists_settingFor_iff (s : State) (c : Course) :
    (∃ left, s.settingFor c left) ↔ 0 < s.courseSetting c := by
  rw [Nat.pos_iff_ne_zero, Ne, State.courseSetting_eq_zero_iff]
  push Not
  exact ⟨fun ⟨_, e, he, hpos, hstands⟩ => ⟨e, he, hstands ▸ Nat.ne_of_gt hpos⟩,
    fun ⟨e, he, hstands⟩ => ⟨_, e, he, Nat.pos_of_ne_zero hstands, rfl⟩⟩

/-- R47: the greatest of the times is that of the slowest slot. -/
theorem State.courseSetting_of_greatest {s : State} {c : Course} {left : Nat} (hleft : s.settingFor c left)
    (hgreatest : ∀ other, s.settingFor c other → other ≤ left) : s.courseSetting c = left := by
  obtain ⟨e, he, _, hstands⟩ := hleft
  refine largest_eq_of_greatest (List.mem_map.mpr ⟨e, he, hstands⟩) (List.forall_mem_map.mpr fun x hx => ?_)
  rcases Nat.eq_zero_or_pos (s.stillSetting x.2) with hset | hsetting
  · omega
  · exact hgreatest _ ⟨x, hx, hsetting, rfl⟩

/-! ### The body -/

section Body

variable {w n entry : Nat} {c : Course} {r : Wall} {s : State}

/-- On a course that is held, the state, the times to stand and the number are left to check. -/
theorem courseRetire_held (hw : w ≤ 3) (hn : n ≤ 255) (hr : s.wall w = some r)
    (hc : s.heldCourse w n = some (entry, c)) :
    courseRetire w n s =
      if c.state ≠ .complete then (Reply.refuse .notComplete, s)
      else if 0 < s.courseSetting c then (Reply.refusedWith .setting (u32 (s.courseSetting c)), s)
      else if r.baseCourse ≠ n then (Reply.refuse .notLowest, s)
      else (Reply.okWith (u8 (n + 1) ++ s24Field (s.topOf c)), retire s entry c) := by
  rw [courseRetire, withCourse, if_neg (by omega), hr]
  dsimp only
  rw [hc]
  simp only [Option.any_some, decide_eq_true_eq]
  rfl

/-- R1, R47, R62: the checks in order, the first that holds refuses. -/
theorem courseRetire_refusals {setting : Nat → Prop}
    (hsetting : ∀ left, setting left ↔ ∃ e c, s.heldCourse w n = some (e, c) ∧ s.settingFor c left) :
    FirstOf
      [(¬ (w ≤ 3 ∧ n ≤ 255), courseRetire w n s = (Reply.refuse .outOfRange, s)),
        (s.wall w = none, courseRetire w n s = s.refuseNoRecord .p none 1 w []),
        (∀ e ∈ s.courses, ¬ (e.2.wall = w ∧ e.2.number = n),
          courseRetire w n s = s.refuseNoRecord .p none 3 (w * 256 + n) []),
        (∃ e c, s.heldCourse w n = some (e, c) ∧ c.state ≠ .complete,
          courseRetire w n s = (Reply.refuse .notComplete, s)),
        (∃ left, setting left, ∀ left, setting left → (∀ other, setting other → other ≤ left) →
          courseRetire w n s = (Reply.refusedWith .setting (u32 left), s)),
        (∃ r, s.wall w = some r ∧ r.baseCourse ≠ n, courseRetire w n s = (Reply.refuse .notLowest, s))] := by
  refine ⟨fun hrange => if_pos (by omega), fun hrange => ?_⟩
  obtain ⟨hw, hn⟩ := not_not.mp hrange
  have hinRange : ¬ (3 < w ∨ 255 < n) := by omega
  refine ⟨fun hr => by rw [courseRetire, withCourse, if_neg hinRange, hr], fun hr => ?_⟩
  obtain ⟨r, hr⟩ := Option.ne_none_iff_exists'.mp hr
  rw [← State.heldCourse_none_iff]
  refine ⟨fun hc => by simp only [courseRetire, withCourse, if_neg hinRange, hr, hc], fun hc => ?_⟩
  obtain ⟨⟨entry, c⟩, hc⟩ := Option.ne_none_iff_exists'.mp hc
  have hsetting : setting = s.settingFor c := by
    funext left
    simp [hsetting, hc]
  rw [courseRetire_held hw hn hr hc, hsetting, hc, hr]
  simp only [Option.some.injEq, Prod.mk.injEq, exists_eq_left', exists_and_left, and_assoc]
  refine ⟨fun hstate => if_pos hstate, fun hstate => ?_⟩
  rw [if_neg hstate, s.exists_settingFor_iff c]
  refine ⟨fun hpos left hleft hgreatest => ?_, fun hpos => ?_⟩
  · rw [if_pos hpos, State.courseSetting_of_greatest hleft hgreatest]
  · rw [if_neg hpos]
    exact ⟨fun hbase => if_pos hbase, fun _ => trivial⟩

/-- R48: no check refuses. -/
theorem courseRetire_frees (hw : w ≤ 3) (hn : n ≤ 255) (hr : s.wall w = some r)
    (hc : s.heldCourse w n = some (entry, c)) (hstate : c.state = .complete)
    (hset : ∀ e ∈ s.courseSlots c, s.stillSetting e.2 = 0) (hbase : r.baseCourse = n) :
    courseRetire w n s = (Reply.okWith (u8 (n + 1) ++ s24Field (s.topOf c)), retire s entry c) := by
  rw [courseRetire_held hw hn hr hc, if_neg (not_not.mpr hstate),
    if_neg (Nat.not_lt.mpr (Nat.le_zero.mpr ((s.courseSetting_eq_zero_iff c).mpr hset))), if_neg (not_not.mpr hbase)]

end Body

/-! ### What a retirement leaves (R48, R49) -/

section Retired

variable (s : State) (entry : Nat) (c : Course)

theorem retire_frame :
    retire s entry c =
      { s with
        walls := (retire s entry c).walls, courses := (retire s entry c).courses, runs := (retire s entry c).runs
        slots := (retire s entry c).slots } := rfl

theorem retire_course_same : (retire s entry c).course entry = none := Table.find_free_same _ _

theorem retire_course_other {e : Nat} (he : e ≠ entry) : (retire s entry c).course e = s.course e :=
  Table.find_free_other _ he

theorem retire_wall (v : Nat) :
    (retire s entry c).wall v =
      if v = c.wall then (s.wall v).map fun r => { r with settledTop := s.topOf c, baseCourse := c.number + 1 }
      else s.wall v := by
  rw [State.wall, retire, Table.find_update]
  rfl

theorem retire_run (id : Nat) : (retire s entry c).run id = if id ∈ c.runIds.getD [] then none else s.run id := by
  refine (Table.find_filter_key s.runs (fun k => !(c.runIds.getD []).contains k) id).trans ?_
  by_cases hid : id ∈ c.runIds.getD [] <;> simp [hid, State.run]

theorem find_dropSupports (above : Nat) (retired : List Nat) (slots : List (Nat × Slot)) (id : Nat) :
    Table.find (dropSupports above retired slots) id =
      (Table.find slots id).map fun sl => if above = sl.course then sl.withoutSupports retired else sl :=
  Table.find_map_record slots (fun e => by by_cases h : above = e.2.course <;> simp [h, eq_comm]) id

theorem Slot.withoutSupports_eq (retired : List Nat) (sl : Slot) :
    sl.withoutSupports retired = { sl with supports := sl.supports.filter fun u => u ∉ retired } := by
  simp [Slot.withoutSupports]

/-- R48, R49: the course's slots are FREE, those of the live course above lose their references to them, and the others
keep their records. -/
theorem retire_slot (id : Nat) :
    (retire s entry c).slot id =
      if id ∈ (s.courseSlots c).map Prod.fst then none
      else (s.slot id).map fun sl =>
        if (s.liveCourse c.wall (c.number + 1)).any (fun above => above.1 = sl.course) then
          { sl with supports := sl.supports.filter fun u => u ∉ (s.courseSlots c).map Prod.fst }
        else sl := by
  have hkept : Table.find (s.slots.filter fun e => !((s.courseSlots c).map Prod.fst).contains e.1) id =
      if id ∈ (s.courseSlots c).map Prod.fst then none else s.slot id := by
    rw [Table.find_filter_key s.slots fun k => !((s.courseSlots c).map Prod.fst).contains k]
    by_cases hid : id ∈ (s.courseSlots c).map Prod.fst <;> simp [hid, State.slot]
  rw [State.slot, retire]
  dsimp only
  cases s.liveCourse c.wall (c.number + 1) with
  | none =>
    dsimp only
    rw [hkept]
    simp
  | some above =>
    dsimp only
    rw [find_dropSupports, hkept]
    split
    · rfl
    · simp [Slot.withoutSupports_eq]

end Retired

/-! ### The request -/

/-- Settles O30: the courses found, the checks in the body's order, and the tables that the last case leaves. -/
theorem courseRetireFreesTheCourse : Obligations.CourseRetireFreesTheCourse := by
  refine ⟨?_, ?_, ?_⟩
  · exact fun s w n => ⟨fun e => State.heldCourse_some, State.heldCourse_none_iff.mp,
      fun e => State.liveCourse_some, State.liveCourse_none_iff.mp⟩
  · intro tag w n entry c r s hs hw hn hr hc hstate hset hbase
    obtain ⟨t, hnext, hans, ht⟩ :=
      exec_of_body rfl rfl hs (courseRetire_ignores w n) nofun (courseRetire_frees hw hn hr hc hstate hset hbase)
    obtain ⟨_, rfl, rfl⟩ := State.heldCourse_some hc
    have hcourse := State.course_of_withPortUnitOf ht
    have hwall := fun v => (State.wall_of_withPortUnitOf ht v).trans (retire_wall s entry c v)
    have hslot := fun id => (State.slot_of_withPortUnitOf ht id).trans (retire_slot s entry c id)
    refine ⟨t, hnext, hans, (hcourse entry).trans (retire_course_same s entry c),
      fun e he => (hcourse e).trans (retire_course_other s entry c he), ?_,
      fun v hv => (hwall v).trans (if_neg hv),
      fun id => (State.run_of_withPortUnitOf ht id).trans (retire_run s entry c id),
      fun id hid => (hslot id).trans (if_pos hid), fun id hid => (hslot id).trans (if_neg hid), ?_⟩
    · rw [hwall, if_pos rfl, hr]
      rfl
    · rw [retire_frame] at ht
      rw [ht]
      rfl
  · rintro tag w n s _ _ setting rfl rfl hs hsetting
    have hignores := courseRetire_ignores w n
    have hanswers : ∀ answer, courseRetire w n s = (answer, s) →
        AnswersUnchanged s (.courseRetire tag w n) ⟨.p, tag, 14⟩ answer :=
      fun _ he => answersUnchanged_of_body rfl rfl hs hignores nofun he
    have hnoRecord : ∀ {recordType identifier},
        courseRetire w n s = s.refuseNoRecord .p none recordType identifier [] →
        RefusesNoRecord s (.courseRetire tag w n) ⟨.p, tag, 14⟩ (recordType * 65536 + identifier : Nat) :=
      fun he => refusesNoRecord_of_body rfl rfl hs hignores nofun he
    have hsetting' : ∀ left, setting left ↔ ∃ e c, s.heldCourse w n = some (e, c) ∧ s.settingFor c left := by
      intro left
      simp only [hsetting, State.settingFor, State.stillSetting_pos_iff, exists_and_left]
    exact FirstOf.imp_cons (hanswers _) (FirstOf.imp_cons hnoRecord (FirstOf.imp_cons hnoRecord
      (FirstOf.imp_cons (hanswers _) (FirstOf.imp_cons
        (fun hbody left hleft hgreatest => hanswers _ (hbody left hleft hgreatest))
        (FirstOf.imp_cons (hanswers _) id))))) (courseRetire_refusals hsetting')

end Sys2Proof.Machine
end

section
/-! The link reset (02 R29, 10 R179, 11 R188): the two widths of a low of RESET_N that are no full reset. -/

namespace Sys2Proof.Machine

section Rising

variable {low : Nat} {s : State} (hrunning : s.hold = .running) (hlow : s.resetN = false)
include hrunning hlow

/-- R179: a low under 1 ms only moves the pin. -/
theorem risingAfter_short (hshort : low < 1000) : risingAfter low s = { s with resetN := true } := by
  have huntil : ¬ 20000 ≤ low := by omega
  simp [risingAfter, hrunning, hlow, linkResetFrom, fullResetFrom, hshort, huntil]

/-- R179: a low of 1 ms to under 20 ms is a link reset. -/
theorem risingAfter_linkReset (hfrom : 1000 ≤ low) (huntil : low < 20000) :
    risingAfter low s = linkResetEffect { s with resetN := true } := by
  simp [risingAfter, hrunning, hlow, linkResetFrom, fullResetFrom, Nat.not_le.mpr huntil, Nat.not_lt.mpr hfrom]

end Rising

/-- R29, R188: a link reset changes the Port Unit, the course table and the load record. -/
theorem linkResetEffect_frame (s : State) :
    linkResetEffect s =
      { s with
        ports := (linkResetEffect s).ports, inbound := [], serving := none, load := none
        courses := (linkResetEffect s).courses } := by
  unfold linkResetEffect
  rw [State.dropLoad_frame]

/-- R188: each port is as after a full reset. -/
theorem linkResetEffect_port (s : State) (port : Port) : (linkResetEffect s).ports.get port = PortState.idle := by
  cases port <;> rfl

/-- Settles O54: RESET_N's fall, and its rise after a link reset and after a low that is too short for one. -/
theorem linkResetKeepsTheRecords : Obligations.LinkResetKeepsTheRecords := by
  refine ⟨fun _ => rfl, fun low s hrunning hlow => ⟨fun hfrom huntil => ?_, fun hshort => ?_⟩⟩
  · refine ⟨linkResetEffect { s with resetN := true },
      congrArg Host.Outcome.next (risingAfter_linkReset hrunning hlow hfrom huntil), linkResetEffect_port _,
      State.dropLoad_course { s with resetN := true }, linkResetEffect_frame _⟩
  · exact congrArg Host.Outcome.next (risingAfter_short hrunning hlow hshort)

end Sys2Proof.Machine
end

section
/-! ACCEPT and RELAY (03 R65 to R67): how one slot or run that is changed reads, the completion test, the two bodies in
each case, and the statements about them. -/

namespace Sys2Proof.Machine

/-! ### One record changed -/

section Update

variable (s : State)

@[simp] theorem State.updateSlot_slot_same (id : Nat) (f : Slot → Slot) :
    (s.updateSlot id f).slot id = (s.slot id).map f := Table.find_update_same _ _ _

theorem State.updateSlot_slot_other {id j : Nat} (f : Slot → Slot) (hj : j ≠ id) :
    (s.updateSlot id f).slot j = s.slot j := Table.find_update_other _ f hj

@[simp] theorem State.updateRun_run_same (r : Nat) (f : Run → Run) :
    (s.updateRun r f).run r = (s.run r).map f := Table.find_update_same _ _ _

theorem State.updateRun_run_other {r j : Nat} (f : Run → Run) (hj : j ≠ r) :
    (s.updateRun r f).run j = s.run j := Table.find_update_other _ f hj

@[simp] theorem State.updateCourse_course_same (e : Nat) (f : Course → Course) :
    (s.updateCourse e f).course e = (s.course e).map f := Table.find_update_same _ _ _

theorem State.updateCourse_course_other {e j : Nat} (f : Course → Course) (hj : j ≠ e) :
    (s.updateCourse e f).course j = s.course j := Table.find_update_other _ f hj

/-- R168: a raised reason leaves the courses as they are. -/
@[simp] theorem State.raise_course (r : Reason) (e : Nat) : (s.raise r).course e = s.course e := rfl

end Update

/-- The slots of a course are read from the run table and the slot table alone. -/
theorem State.courseSlots_congr {s t : State} (hruns : t.runs = s.runs) (hslots : t.slots = s.slots) (c : Course) :
    t.courseSlots c = s.courseSlots c := by
  simp only [State.courseSlots, State.slotsAt, State.run, State.slot, hruns, hslots]

/-- R62: a request that names a live slot comes to its own conditions. -/
theorem withSlot_of_live {port : Port} {id : Nat} {sl : Slot} {s : State} (body : Slot → State → Reply × State)
    (hid : id < 512) (hsl : s.slot id = some sl) : withSlot port id body s = body sl s := by
  rw [withSlot, if_neg (by simpa [slotCapacity] using hid), hsl]

/-! ### The completion test (R46) -/

section Completion

variable {s : State} {entry : Nat} {c : Course}

/-- R46: the course is ACTIVE and holds no slot that is not VERIFIED. -/
def State.allVerified (s : State) (c : Course) : Prop :=
  c.state = .active ∧ ∀ e ∈ s.courseSlots c, e.2.state = .verified

/-- R46: the condition as the test computes it. -/
theorem State.allVerified_iff (s : State) (c : Course) :
    s.allVerified c ↔ c.state = .active ∧ (s.courseSlots c).all (fun e => e.2.state = .verified) = true := by
  simp only [State.allVerified, List.all_eq_true, decide_eq_true_eq]

theorem State.completionTest_completes (hc : s.course entry = some c) (hall : s.allVerified c) :
    s.completionTest entry =
      (s.updateCourse entry fun c => { c with state := .complete }).raise .courseComplete := by
  rw [State.completionTest, hc]
  exact if_pos ((s.allVerified_iff c).mp hall)

theorem State.completionTest_course_same (hc : s.course entry = some c) (hall : s.allVerified c) :
    (s.completionTest entry).course entry = some { c with state := .complete } := by
  rw [State.completionTest_completes hc hall, State.raise_course, State.updateCourse_course_same, hc]
  rfl

theorem State.completionTest_keeps (hc : s.course entry = some c) (hopen : ¬ s.allVerified c) :
    s.completionTest entry = s := by
  rw [State.completionTest, hc]
  exact if_neg (mt (s.allVerified_iff c).mpr hopen)

theorem State.completionTest_slots (s : State) (entry : Nat) : (s.completionTest entry).slots = s.slots := by
  rw [State.completionTest_frame]

theorem State.completionTest_runs (s : State) (entry : Nat) : (s.completionTest entry).runs = s.runs := by
  rw [State.completionTest_frame]

theorem State.completionTest_slot (s : State) (entry id : Nat) : (s.completionTest entry).slot id = s.slot id := by
  rw [State.slot, State.completionTest_slots, State.slot]

/-- R46: the test writes no entry but the one it is made for. -/
theorem State.completionTest_course_other (s : State) {e : Nat} (he : e ≠ entry) :
    (s.completionTest entry).course e = s.course e := by
  unfold State.completionTest
  split
  · rfl
  · split
    · rw [State.raise_course, State.updateCourse_course_other _ _ he]
    · rfl

end Completion

/-! ### ACCEPT (R65) -/

/-- R65: the brick is taken as it was built. -/
def Slot.takenAsBuilt (sl : Slot) : Slot := { sl with state := .verified, accepted := true }

section Accept

variable {id : Nat} {sl : Slot} {s : State} (hid : id < 512) (hsl : s.slot id = some sl)
include hid hsl

/-- R65: a slot in another state. -/
theorem accept_notRejected (hstate : sl.state ≠ .rejected) :
    accept id s = (Reply.refusedWith .notRejected (u8 sl.state.value), s) := by
  rw [accept, withSlot_of_live _ hid hsl, if_pos hstate]

/-- R65: a REJECTED slot is taken as built, and the completion test is made. -/
theorem accept_takes (hstate : sl.state = .rejected) :
    accept id s =
      (Reply.okWith (((s.updateSlot id Slot.takenAsBuilt).completionTest sl.course).courseStateField sl.course),
        (s.updateSlot id Slot.takenAsBuilt).completionTest sl.course) := by
  rw [accept, withSlot_of_live _ hid hsl, if_neg (not_not.mpr hstate)]
  rfl

end Accept

theorem State.courseStateField_of_course {s : State} {entry : Nat} {c : Course} (hc : s.course entry = some c) :
    s.courseStateField entry = u8 c.state.value := by
  rw [State.courseStateField, hc, Option.getD_some]

/-- Settles O31: the two cases of the body, and the two outcomes of the completion test. -/
theorem acceptTakesTheBrickAsBuilt : Obligations.AcceptTakesTheBrickAsBuilt := by
  intro tag id sl c s hs hid hsl hc
  refine ⟨fun hstate => ?_, fun hstate => ?_⟩
  · exact answersUnchanged_of_body rfl rfl hs (accept_ignores id) nofun (accept_notRejected hid hsl hstate)
  · obtain ⟨t, hnext, hans, ht⟩ :=
      exec_of_body rfl rfl hs (accept_ignores id) nofun (accept_takes hid hsl hstate)
    have hslot : ∀ j, t.slot j = (s.updateSlot id Slot.takenAsBuilt).slot j :=
      fun j => (State.slot_of_withPortUnitOf ht j).trans (State.completionTest_slot _ _ j)
    have hcourseSlots : t.courseSlots c = (s.updateSlot id Slot.takenAsBuilt).courseSlots c :=
      State.courseSlots_congr ((congrArg State.runs ht).trans (State.completionTest_runs _ _))
        ((congrArg State.slots ht).trans (State.completionTest_slots _ _)) c
    have htaken : (s.updateSlot id Slot.takenAsBuilt).course sl.course = some c := hc
    refine ⟨t, hnext, ?_, fun j hj => (hslot j).trans (State.updateSlot_slot_other s _ hj), fun hall => ?_,
      fun hopen => ?_, fun e he => ?_, ?_⟩
    · rw [hslot, State.updateSlot_slot_same, hsl]
      rfl
    · rw [hcourseSlots] at hall
      have hcomplete := State.completionTest_course_same htaken hall
      rw [State.courseStateField_of_course hcomplete] at hans
      refine ⟨hans, (State.course_of_withPortUnitOf ht _).trans hcomplete, ?_⟩
      rw [State.completionTest_completes htaken hall] at ht
      rw [ht]
      rfl
    · rw [hcourseSlots] at hopen
      rw [State.completionTest_keeps htaken hopen] at hans ht
      rw [State.courseStateField_of_course htaken] at hans
      exact ⟨hans, by rw [ht]; rfl, by rw [ht]; rfl⟩
    · exact (State.course_of_withPortUnitOf ht e).trans (State.completionTest_course_other _ he)
    · rw [State.completionTest_frame] at ht
      rw [ht]
      rfl

/-! ### The checks of RELAY (R66) -/

theorem find?_not_planned_eq_none_iff {l : List (Nat × Slot)} :
    l.find? (fun e => e.2.state ≠ .planned) = none ↔ ∀ e ∈ l, e.2.state = .planned := by
  simp only [List.find?_eq_none, decide_eq_true_eq, not_not]

theorem find?_not_planned_of_first {before after : List (Nat × Slot)} {e : Nat × Slot}
    (hbefore : ∀ b ∈ before, b.2.state = .planned) (he : e.2.state ≠ .planned) :
    (before ++ e :: after).find? (fun e => e.2.state ≠ .planned) = some e := by
  rw [List.find?_append, find?_not_planned_eq_none_iff.mpr hbefore, Option.none_or]
  exact List.find?_cons_of_pos (p := fun (e : Nat × Slot) => e.2.state ≠ .planned) (decide_eq_true he)

/-- R53: the live slots of the wall, in lay order, that name a slot as a support. -/
def State.restingOn (s : State) (id : Nat) (sl : Slot) : List (Nat × Slot) :=
  (s.laySlots (s.courseOf sl).wall).filter fun e => id ∈ e.2.supports

/-- R66: the third check looks among the slots that rest on the slot for one that is not PLANNED. -/
theorem State.loadedBy_eq (s : State) (id : Nat) (sl : Slot) :
    s.loadedBy id sl = (s.restingOn id sl).find? fun e => e.2.state ≠ .planned := by
  simp [State.loadedBy, State.restingOn, List.find?_filter, Bool.decide_and]

/-! ### RELAY (R67) -/

section Relay

variable {id : Nat} {sl : Slot} {s : State} (hid : id < 512) (hsl : s.slot id = some sl)
include hid hsl

/-- R66: the checks in order, the first that holds refuses. -/
theorem relay_refusals {later above : List (Nat × Slot)}
    (hlater : later = s.slotsAt ((s.runOf sl).slotIds.drop (sl.index + 1))) (habove : above = s.restingOn id sl) :
    FirstOf
      [(sl.state ≠ .rejected, relay id s = (Reply.refusedWith .notRejected (u8 sl.state.value), s)),
        (∃ e ∈ later, e.2.state ≠ .planned,
          ∀ before e after, later = before ++ e :: after → (∀ b ∈ before, b.2.state = .planned) →
            e.2.state ≠ .planned →
            relay id s = (Reply.refusedWith .notLast (u8 e.2.index ++ u8 e.2.state.value), s)),
        (∃ e ∈ above, e.2.state ≠ .planned,
          ∀ before e after, above = before ++ e :: after → (∀ b ∈ before, b.2.state = .planned) →
            e.2.state ≠ .planned → relay id s = (Reply.refusedWith .loaded (u16 e.1), s))] := by
  rw [relay, withSlot_of_live _ hid hsl, State.laterFed, ← hlater, State.loadedBy_eq, ← habove]
  refine ⟨fun hstate => if_pos hstate, fun hstate => ?_⟩
  rw [if_neg hstate]
  refine ⟨fun _ before e after hsplit hbefore he => ?_, fun hplanned => ?_⟩
  · rw [hsplit, find?_not_planned_of_first hbefore he]
  · push Not at hplanned
    rw [find?_not_planned_eq_none_iff.mpr hplanned]
    refine ⟨fun _ before e after hsplit hbefore he => ?_, fun _ => trivial⟩
    rw [hsplit, find?_not_planned_of_first hbefore he]

/-- R67: no check refuses. -/
theorem relay_returns (hstate : sl.state = .rejected)
    (hlater : ∀ e ∈ s.slotsAt ((s.runOf sl).slotIds.drop (sl.index + 1)), e.2.state = .planned)
    (habove : ∀ e ∈ s.restingOn id sl, e.2.state = .planned) :
    relay id s =
      (Reply.okay, (s.updateSlot id Slot.relaid).updateRun sl.run (Run.withoutJointAt sl.index)) := by
  rw [relay, withSlot_of_live _ hid hsl, if_neg (not_not.mpr hstate), State.laterFed,
    find?_not_planned_eq_none_iff.mpr hlater, State.loadedBy_eq, find?_not_planned_eq_none_iff.mpr habove]

end Relay

/-- Settles O32: the slot and the run that the last case of the body leaves, and the checks in the body's order. -/
theorem relayReturnsTheSlotToPlanned : Obligations.RelayReturnsTheSlotToPlanned := by
  refine ⟨?_, ?_⟩
  · intro tag id sl s hs hid hsl hstate hlater habove
    have hresting : ∀ e ∈ s.restingOn id sl, e.2.state = .planned := fun e he =>
      have ⟨hlay, hnames⟩ := List.mem_filter.mp he
      habove e hlay (of_decide_eq_true hnames)
    obtain ⟨t, hnext, hans, ht⟩ :=
      exec_of_body rfl rfl hs (relay_ignores id) nofun (relay_returns hid hsl hstate hlater hresting)
    have hslot : ∀ j, t.slot j = (s.updateSlot id Slot.relaid).slot j :=
      fun j => (State.slot_of_withPortUnitOf ht j).trans rfl
    have hrun := State.run_of_withPortUnitOf ht
    refine ⟨t, hnext, hans, ?_, fun j hj => (hslot j).trans (State.updateSlot_slot_other s _ hj),
      (hrun _).trans (State.updateRun_run_same _ _ _),
      fun r hr => (hrun r).trans (State.updateRun_run_other _ _ hr), ?_⟩
    · rw [hslot, State.updateSlot_slot_same, hsl]
      rfl
    · rw [ht]
      rfl
  · rintro tag id sl s _ _ later above rfl rfl hs hid hsl hlater habove
    have hanswers : ∀ answer, relay id s = (answer, s) →
        AnswersUnchanged s (.relay tag id) ⟨.p, tag, 18⟩ answer :=
      fun _ he => answersUnchanged_of_body rfl rfl hs (relay_ignores id) nofun he
    exact FirstOf.imp_cons (hanswers _) (FirstOf.imp_cons
      (fun hbody before e after hsplit hbefore he => hanswers _ (hbody before e after hsplit hbefore he))
      (FirstOf.imp_cons
        (fun hbody before e after hsplit hbefore he => hanswers _ (hbody before e after hsplit hbefore he))
        fun _ => firstOf_nil))
      (relay_refusals hid hsl hlater habove)

end Sys2Proof.Machine
end

section
/-! The closer cut (04 R81 to R83): what limiting a cut to the saw step and the kind yields, the length left for the cut with
and without a known face below, and the statement about the cut that PICK commits. -/

namespace Sys2Proof.Machine

/-! ### A cut limited to the kind (R82, R83) -/

/-- A multiple of the saw step is at most a length rounded down to the saw step just when it is at most the length. -/
theorem le_mul_ediv_iff_of_dvd {q m c : Int} (hq : 0 < q) (hm : q ∣ m) : m ≤ q * (c / q) ↔ m ≤ c := by
  obtain ⟨a, rfl⟩ := hm
  rw [mul_le_mul_iff_right₀ hq, Int.le_ediv_iff_mul_le hq, mul_comm]

/-- R83: the limit that each indication speaks of, with the cut it comes with. -/
theorem limitCut_cases {k : Kind} {q c cut : Int} {limit : CutLimit} (hq : 0 < q) (hmultiple : q ∣ k.cmin)
    (h : limitCut k q c = (cut, limit)) :
    (limit = .low ∧ c < k.cmin ∧ cut = k.cmin) ∨
      (limit = .high ∧ k.length < c ∧ cut = q * (k.length / q)) ∨
      (limit = .none ∧ k.cmin ≤ cut ∧ cut ≤ q * (k.length / q) ∧ cut = q * (c / q)) := by
  rw [limitCut] at h
  split at h
  next hlow =>
    obtain ⟨rfl, rfl⟩ := Prod.mk.inj h
    exact .inl ⟨rfl, lt_of_not_ge (mt (le_mul_ediv_iff_of_dvd hq hmultiple).mpr hlow.not_ge), rfl⟩
  next hlow =>
    split at h
    next hhigh =>
      obtain ⟨rfl, rfl⟩ := Prod.mk.inj h
      have hc : ¬ c ≤ k.length := fun hc =>
        hhigh.not_ge ((le_mul_ediv_iff_of_dvd hq ⟨_, rfl⟩).mpr ((Int.mul_ediv_self_le hq.ne').trans hc))
      exact .inr (.inl ⟨rfl, lt_of_not_ge hc, rfl⟩)
    next hhigh =>
      obtain ⟨rfl, rfl⟩ := Prod.mk.inj h
      exact .inr (.inr ⟨rfl, not_lt.mp hlow, not_lt.mp hhigh, rfl⟩)

/-- R82, R83: a limited cut is a multiple of the saw step from Cmin to the cut ceiling; with no limit it is the length rounded
down, and each limit tells where the length lies. -/
theorem limitCut_spec {k : Kind} {q c cut : Int} {limit : CutLimit} (hq : 0 < q) (hle : k.cmin ≤ k.length)
    (hmod : k.cmin % q = 0) (h : limitCut k q c = (cut, limit)) :
    cut % q = 0 ∧ k.cmin ≤ cut ∧ cut ≤ q * (k.length / q) ∧ cut ≤ k.length ∧
      (limit = .none → cut ≤ c ∧ c < cut + q) ∧ (limit = .low → c < k.cmin ∧ cut = k.cmin) ∧
      (limit = .high → k.length < c ∧ cut = q * (k.length / q)) := by
  have hmultiple : q ∣ k.cmin := Int.dvd_of_emod_eq_zero hmod
  have hfloor : ∀ x : Int, q * (x / q) ≤ x := fun x => Int.mul_ediv_self_le hq.ne'
  have hceiling : k.cmin ≤ q * (k.length / q) := (le_mul_ediv_iff_of_dvd hq hmultiple).mpr hle
  obtain ⟨rfl, hc, rfl⟩ | ⟨rfl, hc, rfl⟩ | ⟨rfl, hlow, hhigh, rfl⟩ := limitCut_cases hq hmultiple h
  · exact ⟨hmod, le_rfl, hceiling, hle, nofun, fun _ => ⟨hc, rfl⟩, nofun⟩
  · exact ⟨Int.mul_emod_right _ _, hceiling, le_rfl, hfloor _, nofun, nofun, fun _ => ⟨hc, rfl⟩⟩
  · exact ⟨Int.mul_emod_right _ _, hlow, hhigh, hhigh.trans (hfloor _),
      fun _ => ⟨hfloor c, Int.lt_mul_ediv_self_add hq⟩, nofun, nofun⟩

/-! ### The length left for the cut (R81) -/

@[simp] theorem State.cutFrom_nil (s : State) : s.cutFrom [] = (0, 0, none) := rfl

theorem State.cutFrom_cons_of_known {s : State} {e : Nat × Slot} {face : Int} {measured : Bool}
    (h : s.knownFace e.2 = some (face, measured)) (rest : List (Nat × Slot)) :
    s.cutFrom (e :: rest) = (0, 0, some face) := by
  rw [State.cutFrom, h]

theorem State.cutFrom_cons_of_unknown {s : State} {e : Nat × Slot} (h : s.knownFace e.2 = none)
    (rest : List (Nat × Slot)) :
    s.cutFrom (e :: rest) =
      ((s.cutFrom rest).1 + e.2.gauged.getD 0, (s.cutFrom rest).2.1 + 1, (s.cutFrom rest).2.2) := by
  rw [State.cutFrom, h]

/-- R81: slots without a known face add their gauged lengths and their number to what the slots below them give. -/
theorem State.cutFrom_append_of_unknown {s : State} {above : List (Nat × Slot)}
    (h : ∀ e ∈ above, s.knownFace e.2 = none) (rest : List (Nat × Slot)) :
    s.cutFrom (above ++ rest) =
      ((above.map fun e => e.2.gauged.getD 0).sum + (s.cutFrom rest).1, (s.cutFrom rest).2.1 + above.length,
        (s.cutFrom rest).2.2) := by
  induction above with
  | nil => simp
  | cons e above ih =>
    obtain ⟨he, habove⟩ := List.forall_mem_cons.mp h
    rw [List.cons_append, State.cutFrom_cons_of_unknown he, ih habove]
    simp only [List.map_cons, List.sum_cons, List.length_cons, Prod.mk.injEq, and_true]
    constructor <;> omega

/-- R81: the slots below, the highest index first, when one of them is the first with a known face. -/
theorem State.cutFrom_reverse_of_known {s : State} {below between : List (Nat × Slot)} {p : Nat × Slot} {face : Int}
    {measured : Bool} (hface : s.knownFace p.2 = some (face, measured))
    (hbetween : ∀ e ∈ between, s.knownFace e.2 = none) :
    s.cutFrom (below ++ p :: between).reverse =
      ((between.map fun e => e.2.gauged.getD 0).sum, between.length, some face) := by
  have hsplit : (below ++ p :: between).reverse = between.reverse ++ p :: below.reverse := by simp
  rw [hsplit, State.cutFrom_append_of_unknown (by simpa using hbetween), State.cutFrom_cons_of_known hface]
  simp

/-- R81: the slots below, the highest index first, when none has a known face. -/
theorem State.cutFrom_reverse_of_unknown {s : State} {below : List (Nat × Slot)}
    (h : ∀ e ∈ below, s.knownFace e.2 = none) :
    s.cutFrom below.reverse = ((below.map fun e => e.2.gauged.getD 0).sum, below.length, none) := by
  rw [← List.append_nil below.reverse, State.cutFrom_append_of_unknown (by simpa using h), State.cutFrom_nil]
  simp

/-- R81: the joints between a known face and the closer are one more than the slots between. -/
theorem State.rawCut_of_known {s : State} {sl : Slot} {below between : List (Nat × Slot)} {p : Nat × Slot} {face : Int}
    {measured : Bool} (hslots : s.slotsAt ((s.runOf sl).slotIds.take sl.index) = below ++ p :: between)
    (hface : s.knownFace p.2 = some (face, measured)) (hbetween : ∀ e ∈ between, s.knownFace e.2 = none) :
    s.rawCut sl = (s.runOf sl).stop - face - (between.map fun e => e.2.gauged.getD 0).sum -
      ((between.length : Int) + 1) * (s.profileOf sl).jn := by
  simp only [State.rawCut, hslots, State.cutFrom_reverse_of_known hface hbetween]

/-- R81: with no known face below, the cut is measured from the run's start, and slot 0 has no joint. -/
theorem State.rawCut_of_unknown {s : State} {sl : Slot}
    (h : ∀ e ∈ s.slotsAt ((s.runOf sl).slotIds.take sl.index), s.knownFace e.2 = none) :
    s.rawCut sl = (s.runOf sl).stop - (s.runOf sl).start -
      ((s.slotsAt ((s.runOf sl).slotIds.take sl.index)).map fun e => e.2.gauged.getD 0).sum -
      (sl.index : Int) * (s.profileOf sl).jn := by
  simp only [State.rawCut, State.cutFrom_reverse_of_unknown h]

/-! ### The statement -/

/-- Settles O36: the closer cut is the limited raw cut, so what limiting yields holds of it; the raw cut with and without a
known face below. -/
theorem closerCutIsASawStep : Obligations.CloserCutIsASawStep := by
  refine ⟨fun _ _ => rfl, fun s sl cut limit hq _ hle hmod hcut => ?_,
    fun _ _ _ _ _ _ _ hslots hface hbetween => State.rawCut_of_known hslots hface hbetween,
    fun _ _ h => State.rawCut_of_unknown h, fun _ _ _ _ _ hq _ hle hmod h => limitCut_spec hq hle hmod h⟩
  obtain ⟨hmultiple, hlow, hhigh, -, hnone, -, -⟩ := limitCut_spec hq hle hmod hcut
  exact ⟨hmultiple, hlow, hhigh, hnone⟩

end Sys2Proof.Machine
end

section
/-! Lay order (03 R61): the courses of a wall by number, the slots of a run, a course and a wall, and, where the records
are linked as every step keeps them, that lay order holds every slot of the wall once and rises. -/

namespace Sys2Proof.Machine

/-! ### The courses of a wall, by number -/

theorem byNumber_eq_orderedInsert (e : Nat × Course) (l : List (Nat × Course)) :
    byNumber e l = l.orderedInsert (fun a b => a.2.number < b.2.number) e := by
  induction l with
  | nil => rfl
  | cons x l ih => rw [byNumber, List.orderedInsert_cons, ih]

theorem byNumber_perm (e : Nat × Course) (l : List (Nat × Course)) : (byNumber e l).Perm (e :: l) := by
  rw [byNumber_eq_orderedInsert]
  exact List.perm_orderedInsert _ e l

theorem byNumber_pairwise (e : Nat × Course) {l : List (Nat × Course)}
    (h : l.Pairwise fun a b => a.2.number ≤ b.2.number) :
    (byNumber e l).Pairwise fun a b => a.2.number ≤ b.2.number := by
  induction l with
  | nil => exact List.pairwise_singleton _ e
  | cons x l ih =>
    obtain ⟨hx, hl⟩ := List.pairwise_cons.mp h
    rw [byNumber]
    split
    next hlt =>
      exact List.pairwise_cons.mpr
        ⟨List.forall_mem_cons.mpr ⟨hlt.le, fun b hb => hlt.le.trans (hx b hb)⟩, h⟩
    next hge =>
      refine List.pairwise_cons.mpr ⟨fun b hb => ?_, ih hl⟩
      obtain rfl | hb := List.mem_cons.mp ((byNumber_perm e l).mem_iff.mp hb)
      · exact not_lt.mp hge
      · exact hx b hb

theorem foldr_byNumber_perm (l : List (Nat × Course)) : (l.foldr byNumber []).Perm l := by
  induction l with
  | nil => exact .nil
  | cons e l ih => exact (byNumber_perm e _).trans (ih.cons e)

theorem foldr_byNumber_pairwise (l : List (Nat × Course)) :
    (l.foldr byNumber []).Pairwise fun a b => a.2.number ≤ b.2.number := by
  induction l with
  | nil => exact .nil
  | cons e l ih => exact byNumber_pairwise e ih

theorem State.coursesOfWall_perm (s : State) (w : Nat) :
    (s.coursesOfWall w).Perm (s.courses.filter fun e => e.2.wall = w) := foldr_byNumber_perm _

theorem State.coursesOfWall_pairwise (s : State) (w : Nat) :
    (s.coursesOfWall w).Pairwise fun a b => a.2.number ≤ b.2.number := foldr_byNumber_pairwise _

theorem State.mem_coursesOfWall {s : State} {w : Nat} {e : Nat × Course} :
    e ∈ s.coursesOfWall w ↔ e ∈ s.courses ∧ e.2.wall = w := by
  rw [(s.coursesOfWall_perm w).mem_iff, List.mem_filter, decide_eq_true_eq]

/-! ### The slots of a run, a course and a wall -/

theorem State.mem_slotsAt {s : State} {ids : List Nat} {id : Nat} {sl : Slot} :
    (id, sl) ∈ s.slotsAt ids ↔ id ∈ ids ∧ s.slot id = some sl := by
  simp only [State.slotsAt, List.mem_filterMap, Option.map_eq_some_iff, Prod.mk.injEq]
  constructor
  · rintro ⟨_, hmem, _, hslot, rfl, rfl⟩
    exact ⟨hmem, hslot⟩
  · rintro ⟨hmem, hslot⟩
    exact ⟨id, hmem, sl, hslot, rfl, rfl⟩

/-- A run that is not live has no slots (log 8). -/
theorem State.mem_slotIds_iff {s : State} {run id : Nat} :
    id ∈ ((s.run run).getD Run.blank).slotIds ↔ ∃ r, s.run run = some r ∧ id ∈ r.slotIds := by
  cases s.run run with
  | none => simp [Run.blank]
  | some r => simp

theorem State.mem_courseSlots {s : State} {c : Course} {id : Nat} {sl : Slot} :
    (id, sl) ∈ s.courseSlots c ↔
      s.slot id = some sl ∧ ∃ run ∈ c.runIds.getD [], ∃ r, s.run run = some r ∧ id ∈ r.slotIds := by
  simp only [State.courseSlots, List.mem_flatMap, State.mem_slotsAt, State.mem_slotIds_iff]
  constructor
  · rintro ⟨run, hrun, hid, hslot⟩
    exact ⟨hslot, run, hrun, hid⟩
  · rintro ⟨hslot, run, hrun, hid⟩
    exact ⟨run, hrun, hid, hslot⟩

theorem State.mem_laySlots {s : State} {w : Nat} {x : Nat × Slot} :
    x ∈ s.laySlots w ↔ ∃ e ∈ s.courses, e.2.wall = w ∧ x ∈ s.courseSlots e.2 := by
  simp only [State.laySlots, List.mem_flatMap, State.mem_coursesOfWall, and_assoc]

/-- R61: lay order lists live slots only. -/
theorem State.slot_of_mem_laySlots {s : State} {w id : Nat} {sl : Slot} (h : (id, sl) ∈ s.laySlots w) :
    s.slot id = some sl := by
  obtain ⟨_, _, _, hmem⟩ := State.mem_laySlots.mp h
  exact (State.mem_courseSlots.mp hmem).1

/-- R61: lay order written out to the slots of the runs. -/
theorem State.laySlots_eq (s : State) (w : Nat) :
    s.laySlots w = ((s.coursesOfWall w).flatMap fun e =>
      (e.2.runIds.getD []).flatMap fun run => (((s.run run).map Run.slotIds).getD []).filterMap fun id =>
        (s.slot id).map fun sl => (id, sl)) := by
  have hids : ∀ run, ((s.run run).getD Run.blank).slotIds = ((s.run run).map Run.slotIds).getD [] := fun run => by
    cases s.run run <;> rfl
  simp only [State.laySlots, State.courseSlots, State.slotsAt, hids]

theorem State.runOf_of_run {s : State} {sl : Slot} {r : Run} (h : s.run sl.run = some r) : s.runOf sl = r := by
  rw [State.runOf, h, Option.getD_some]

theorem State.courseOf_of_course {s : State} {sl : Slot} {c : Course} (h : s.course sl.course = some c) :
    s.courseOf sl = c := by
  rw [State.courseOf, h, Option.getD_some]

/-! ### Records that are linked (R21, R40, R54) -/

/-- A list whose elements carry their own place rises by it. -/
theorem pairwise_lt_of_zipIdx {α : Type} {l : List α} {place : α → Nat} (h : ∀ x ∈ l.zipIdx, place x.1 = x.2) :
    l.Pairwise fun a b => place a < place b := by
  have hplace : ∀ (i : Nat) (hi : i < l.length), place l[i] = i := fun i hi =>
    h (l[i], i) (List.mem_zipIdx_iff_getElem?.mpr (List.getElem?_eq_getElem hi))
  rw [List.pairwise_iff_getElem]
  intro i j hi hj hij
  rwa [hplace i hi, hplace j hj]

theorem exists_mem_zipIdx {α : Type} {l : List α} {a : α} (h : a ∈ l) : ∃ i, (a, i) ∈ l.zipIdx := by
  obtain ⟨i, hi, rfl⟩ := List.getElem_of_mem h
  exact ⟨i, List.mem_zipIdx_iff_getElem?.mpr (List.getElem?_eq_getElem hi)⟩

section Linked

variable {s : State} (hlinked : s.RecordsLinked)
include hlinked

theorem State.RecordsLinked.run_at {e : Nat × Course} (he : e ∈ s.courses) {run i : Nat}
    (hi : (run, i) ∈ (e.2.runIds.getD []).zipIdx) : ∃ r, s.run run = some r ∧ r.course = e.1 ∧ r.order = i := by
  simpa only [Option.any_eq_true, decide_eq_true_eq] using hlinked.runs e he _ hi

theorem State.RecordsLinked.slot_at {run : Nat} {r : Run} (hr : s.run run = some r) {id i : Nat}
    (hi : (id, i) ∈ r.slotIds.zipIdx) :
    ∃ sl, s.slot id = some sl ∧ sl.run = run ∧ sl.course = r.course ∧ sl.index = i := by
  simpa only [Option.any_eq_true, decide_eq_true_eq] using hlinked.slots (run, r) (Table.mem_of_find hr) _ hi

/-- R54: a slot listed by a run names it and its course. -/
theorem State.RecordsLinked.slot_names {run id : Nat} {r : Run} {sl : Slot} (hr : s.run run = some r)
    (hid : id ∈ r.slotIds) (hsl : s.slot id = some sl) : sl.run = run ∧ sl.course = r.course := by
  obtain ⟨i, hi⟩ := exists_mem_zipIdx hid
  obtain ⟨sl', hsl', hrun, hcourse, -⟩ := hlinked.slot_at hr hi
  obtain rfl := Option.some.inj (hsl.symm.trans hsl')
  exact ⟨hrun, hcourse⟩

/-- R54: every slot stands in the run it names, and that run in the slot's course. -/
theorem State.RecordsLinked.slot_listed {id : Nat} {sl : Slot} (hsl : s.slot id = some sl) :
    ∃ r c, s.run sl.run = some r ∧ id ∈ r.slotIds ∧ s.course sl.course = some c ∧ sl.run ∈ c.runIds.getD [] := by
  obtain ⟨r, hr, hid⟩ : ∃ r, s.run sl.run = some r ∧ id ∈ r.slotIds := by
    simpa only [Option.any_eq_true, decide_eq_true_eq] using hlinked.runOfSlot (id, sl) (Table.mem_of_find hsl)
  obtain ⟨c, hc, hrun⟩ : ∃ c, s.course r.course = some c ∧ sl.run ∈ c.runIds.getD [] := by
    simpa only [Option.any_eq_true, decide_eq_true_eq] using hlinked.courseOfRun (sl.run, r) (Table.mem_of_find hr)
  obtain ⟨-, hcourse⟩ := hlinked.slot_names hr hid hsl
  exact ⟨r, c, hr, hid, hcourse ▸ hc, hrun⟩

/-- R40: the runs of a course rise by their order. -/
theorem State.RecordsLinked.runIds_pairwise {e : Nat × Course} (he : e ∈ s.courses) :
    (e.2.runIds.getD []).Pairwise fun a b =>
      ((s.run a).getD Run.blank).order < ((s.run b).getD Run.blank).order :=
  pairwise_lt_of_zipIdx (place := fun run => ((s.run run).getD Run.blank).order) fun ⟨run, i⟩ hi => by
    obtain ⟨r, hr, -, horder⟩ := hlinked.run_at he hi
    simpa only [hr, Option.getD_some] using horder

/-- R54: the slots of a run rise by their index. -/
theorem State.RecordsLinked.slotsAt_pairwise {run : Nat} {r : Run} (hr : s.run run = some r) :
    (s.slotsAt r.slotIds).Pairwise fun a b => a.2.index < b.2.index := by
  have hrise : r.slotIds.Pairwise fun a b => (s.slot a).elim 0 Slot.index < (s.slot b).elim 0 Slot.index :=
    pairwise_lt_of_zipIdx (place := fun id => (s.slot id).elim 0 Slot.index) fun ⟨id, i⟩ hi => by
      obtain ⟨sl, hsl, -, -, hindex⟩ := hlinked.slot_at hr hi
      simpa only [hsl, Option.elim_some] using hindex
  rw [State.slotsAt, List.pairwise_filterMap]
  refine hrise.imp fun {a b} hlt x hx y hy => ?_
  obtain ⟨sl, hsl, rfl⟩ := Option.map_eq_some_iff.mp hx
  obtain ⟨sl', hsl', rfl⟩ := Option.map_eq_some_iff.mp hy
  simpa only [hsl, hsl', Option.elim_some] using hlt

/-- R61: where a slot of a run in lay order stands. -/
theorem State.RecordsLinked.runOf_slotsAt {run : Nat} {x : Nat × Slot}
    (hx : x ∈ s.slotsAt ((s.run run).getD Run.blank).slotIds) :
    s.runOf x.2 = (s.run run).getD Run.blank := by
  obtain ⟨hid, hsl⟩ := State.mem_slotsAt.mp hx
  obtain ⟨r, hr, hid⟩ := State.mem_slotIds_iff.mp hid
  obtain ⟨hrun, -⟩ := hlinked.slot_names hr hid hsl
  rw [State.runOf, hrun]

/-- R61: the slots of a course name it. -/
theorem State.RecordsLinked.courseOf_courseSlots (hcourses : s.courses.Pairwise fun a b => a.1 < b.1)
    {e : Nat × Course} (he : e ∈ s.courses) {x : Nat × Slot} (hx : x ∈ s.courseSlots e.2) : s.courseOf x.2 = e.2 := by
  obtain ⟨hsl, run, hrun, r, hr, hid⟩ := State.mem_courseSlots.mp hx
  obtain ⟨i, hi⟩ := exists_mem_zipIdx hrun
  obtain ⟨r', hr', hcourse, -⟩ := hlinked.run_at he hi
  obtain rfl := Option.some.inj (hr.symm.trans hr')
  obtain ⟨-, hnames⟩ := hlinked.slot_names hr hid hsl
  exact State.courseOf_of_course ((congrArg s.course (hnames.trans hcourse)).trans (Table.find_of_mem hcourses he))

/-- R21: a course that has a slot is not LOADING. -/
theorem State.RecordsLinked.live_of_mem_courseSlots {e : Nat × Course} (he : e ∈ s.courses) {x : Nat × Slot}
    (hx : x ∈ s.courseSlots e.2) : e.2.live = true := by
  refine (Course.live_iff _).mpr fun hloading => ?_
  obtain ⟨-, run, hrun, -⟩ := State.mem_courseSlots.mp hx
  rw [hlinked.loading e he hloading] at hrun
  exact List.not_mem_nil hrun

/-- R61: lay order holds every slot of the wall. -/
theorem State.RecordsLinked.mem_laySlots_iff (hcourses : s.courses.Pairwise fun a b => a.1 < b.1) {w id : Nat}
    {sl : Slot} : (id, sl) ∈ s.laySlots w ↔ s.slot id = some sl ∧ (s.courseOf sl).wall = w := by
  constructor
  · intro h
    obtain ⟨e, he, hw, hx⟩ := State.mem_laySlots.mp h
    refine ⟨State.slot_of_mem_laySlots h, ?_⟩
    rw [hlinked.courseOf_courseSlots hcourses he hx, hw]
  · rintro ⟨hsl, hw⟩
    obtain ⟨r, c, hr, hid, hc, hrun⟩ := hlinked.slot_listed hsl
    rw [State.courseOf_of_course hc] at hw
    exact State.mem_laySlots.mpr
      ⟨(sl.course, c), Table.mem_of_find hc, hw, State.mem_courseSlots.mpr ⟨hsl, sl.run, hrun, r, hr, hid⟩⟩

/-- R61: within a course, lay order rises by run order, then by index. -/
theorem State.RecordsLinked.courseSlots_pairwise {e : Nat × Course} (he : e ∈ s.courses) :
    (s.courseSlots e.2).Pairwise fun a b =>
      (s.runOf a.2).order < (s.runOf b.2).order ∨
        ((s.runOf a.2).order = (s.runOf b.2).order ∧ a.2.index < b.2.index) := by
  rw [State.courseSlots, List.pairwise_flatMap]
  refine ⟨fun run hrun => ?_, (hlinked.runIds_pairwise he).imp fun hlt x hx y hy => .inl ?_⟩
  · obtain ⟨i, hi⟩ := exists_mem_zipIdx hrun
    obtain ⟨r, hr, -, -⟩ := hlinked.run_at he hi
    have hrise := hlinked.slotsAt_pairwise hr
    rw [← Option.getD_some (a := r) (b := Run.blank), ← hr] at hrise
    refine hrise.imp_of_mem fun hx hy hlt => .inr ⟨?_, hlt⟩
    rw [hlinked.runOf_slotsAt hx, hlinked.runOf_slotsAt hy]
  · rwa [hlinked.runOf_slotsAt hx, hlinked.runOf_slotsAt hy]

end Linked

/-! ### Lay order rises (R61) -/

/-- R21: no two live courses of a wall carry one number. -/
theorem State.liveNumbers_ne {s : State} (hnumbers : s.numbersInOrder) (w : Nat) :
    (s.coursesOfWall w).Pairwise fun a b => a.2.live = true → b.2.live = true → a.2.number ≠ b.2.number := by
  obtain ⟨hopen, hwalls⟩ := hnumbers
  refine (List.Perm.pairwise_iff (fun h hb ha => (h ha hb).symm) (s.coursesOfWall_perm w)).mpr ?_
  cases hw : s.wall w with
  | none =>
    rw [List.filter_eq_nil_iff.mpr]
    · exact .nil
    · intro e he hwall
      have := hopen e he
      rw [of_decide_eq_true hwall, hw] at this
      exact Bool.false_ne_true this
  | some r =>
    obtain ⟨-, -, hperm, -⟩ := hwalls (w, r) (Table.mem_of_find hw)
    have hdistinct := List.pairwise_map.mp (hperm.nodup_iff.mpr List.nodup_range')
    rw [List.pairwise_filter] at hdistinct ⊢
    exact hdistinct.imp fun h hwa hwb hla hlb =>
      h (decide_eq_true ⟨of_decide_eq_true hwa, hla⟩) (decide_eq_true ⟨of_decide_eq_true hwb, hlb⟩)

/-- R61: lay order rises by course number, then by run order, then by index. -/
theorem State.laySlots_pairwise {s : State} (hcourses : s.courses.Pairwise fun a b => a.1 < b.1)
    (hnumbers : s.numbersInOrder) (hlinked : s.RecordsLinked) (w : Nat) :
    (s.laySlots w).Pairwise fun a b =>
      (s.courseOf a.2).number < (s.courseOf b.2).number ∨
        ((s.courseOf a.2).number = (s.courseOf b.2).number ∧
          ((s.runOf a.2).order < (s.runOf b.2).order ∨
            ((s.runOf a.2).order = (s.runOf b.2).order ∧ a.2.index < b.2.index))) := by
  have hcourse : ∀ e ∈ s.coursesOfWall w, ∀ x ∈ s.courseSlots e.2, s.courseOf x.2 = e.2 ∧ e.2.live = true :=
    fun e he x hx =>
      have hheld := (State.mem_coursesOfWall.mp he).1
      ⟨hlinked.courseOf_courseSlots hcourses hheld hx, hlinked.live_of_mem_courseSlots hheld hx⟩
  rw [State.laySlots, List.pairwise_flatMap]
  refine ⟨fun e he => ?_, ?_⟩
  · refine (hlinked.courseSlots_pairwise (State.mem_coursesOfWall.mp he).1).imp_of_mem fun hx hy h => .inr ⟨?_, h⟩
    rw [(hcourse e he _ hx).1, (hcourse e he _ hy).1]
  · refine ((s.coursesOfWall_pairwise w).and (s.liveNumbers_ne hnumbers w)).imp_of_mem
      fun {a b} ha hb ⟨hle, hne⟩ x hx y hy => .inl ?_
    obtain ⟨hxa, hlivea⟩ := hcourse a ha x hx
    obtain ⟨hyb, hliveb⟩ := hcourse b hb y hy
    rw [hxa, hyb]
    exact lt_of_le_of_ne hle (hne hlivea hliveb)

end Sys2Proof.Machine
end

section
/-! The feed candidate (05 R92): the conditions of a feedable slot one by one, the first slot in lay order that meets them,
and the statement about it. -/

namespace Sys2Proof.Machine

/-! ### The conditions (R92, R157) -/

theorem SlotState.feedsNext_iff (st : SlotState) :
    st.feedsNext = true ↔
      st = .fed ∨ st = .issued ∨ st = .uncertain ∨ st = .placed ∨ st = .verified := by
  cases st <;> decide

theorem State.predecessor_eq_some_iff {s : State} {sl : Slot} {p : Nat × Slot} :
    s.predecessor sl = some p ↔
      1 ≤ sl.index ∧ (s.runOf sl).slotIds[sl.index - 1]? = some p.1 ∧ s.slot p.1 = some p.2 := by
  unfold State.predecessor
  split
  next hzero => simp [hzero]
  next hpos =>
    cases (s.runOf sl).slotIds[sl.index - 1]? with
    | none => simp
    | some id =>
      simp only [Option.map_eq_some_iff, Option.some.injEq]
      constructor
      · rintro ⟨sl', hsl, rfl⟩
        exact ⟨Nat.one_le_iff_ne_zero.mpr hpos, rfl, hsl⟩
      · rintro ⟨-, rfl, hsl⟩
        exact ⟨p.2, hsl, rfl⟩

theorem State.predecessorFed_iff (s : State) (sl : Slot) :
    s.predecessorFed sl = true ↔
      sl.index = 0 ∨ ∃ e, s.predecessor sl = some e ∧
        (e.2.state = .fed ∨ e.2.state = .issued ∨ e.2.state = .uncertain ∨ e.2.state = .placed ∨
          e.2.state = .verified) := by
  simp only [State.predecessorFed, Bool.or_eq_true, decide_eq_true_eq, Option.any_eq_true, SlotState.feedsNext_iff]

theorem State.supportsFed_iff (s : State) (sl : Slot) :
    s.supportsFed sl = true ↔ ∀ u ∈ sl.supports, ∃ b, s.slot u = some b ∧ b.state ≠ .planned := by
  simp only [State.supportsFed, List.all_eq_true, Option.any_eq_true, decide_eq_true_eq]

theorem State.feedable_iff (s : State) (sl : Slot) :
    s.feedable sl = true ↔
      sl.state = .planned ∧ (s.courseOf sl).state = .active ∧ s.inReach sl = true ∧
        (sl.index = 0 ∨ ∃ e, s.predecessor sl = some e ∧
          (e.2.state = .fed ∨ e.2.state = .issued ∨ e.2.state = .uncertain ∨ e.2.state = .placed ∨
            e.2.state = .verified)) ∧
        ∀ u ∈ sl.supports, ∃ b, s.slot u = some b ∧ b.state ≠ .planned := by
  simp only [State.feedable, Bool.and_eq_true, decide_eq_true_eq, State.predecessorFed_iff, State.supportsFed_iff,
    and_assoc]

/-! ### The first of them (R92) -/

theorem State.candidate_eq_some {s : State} {id : Nat} {sl : Slot} (h : s.candidate = some (id, sl)) :
    s.slot id = some sl ∧ s.feedable sl = true ∧
      ∃ before after, s.laySlots s.station.wall = before ++ (id, sl) :: after ∧
        ∀ e ∈ before, s.feedable e.2 = false := by
  obtain ⟨hfeedable, before, after, hsplit, hbefore⟩ := List.find?_eq_some_iff_append.mp h
  refine ⟨State.slot_of_mem_laySlots (List.mem_of_find?_eq_some h), hfeedable, before, after, hsplit, fun e he => ?_⟩
  simpa using hbefore e he

/-- Settles O33: the conditions as R92 lists them, the first slot that meets them, and lay order by the links of the
records. -/
theorem candidateIsTheFirstFeedableSlot : Obligations.CandidateIsTheFirstFeedableSlot := by
  refine ⟨State.feedable_iff, fun _ _ _ => State.candidate_eq_some, fun s hnone e he => ?_,
    fun s sl => decide_eq_true_iff, fun s w => ⟨s.coursesOfWall_perm w, s.coursesOfWall_pairwise w, s.laySlots_eq w,
      fun hcanonical _ hnumbers hlinked => ?_, fun _ _ => State.predecessor_eq_some_iff⟩⟩
  · simpa using List.find?_eq_none.mp hnone e he
  · obtain ⟨-, -, -, -, ⟨hcourses, -⟩, -, -⟩ := hcanonical
    exact ⟨fun _ _ => hlinked.mem_laySlots_iff hcourses, State.laySlots_pairwise hcourses hnumbers hlinked w⟩

end Sys2Proof.Machine
end

section
/-! FLUSH (05 R106, R109): what the slots of the queue return to, what a drain that is done leaves, the two cases of the
body, and the statement about it. -/

namespace Sys2Proof.Machine

/-! ### The slots of the queue (R106) -/

theorem Slot.unfed_unfed (sl : Slot) : sl.unfed.unfed = sl.unfed := rfl

/-- R106: the slots that entries name go back to PLANNED, every other slot keeps its record. -/
theorem find_unfeed (queue : List Entry) (slots : List (Nat × Slot)) (id : Nat) :
    Table.find (unfeed slots queue) id =
      if ∃ e ∈ queue, e.slot = id then (Table.find slots id).map Slot.unfed else Table.find slots id := by
  induction queue generalizing slots with
  | nil => simp [unfeed]
  | cons e queue ih =>
    have hstep : unfeed slots (e :: queue) = unfeed (Table.update slots e.slot Slot.unfed) queue := rfl
    rw [hstep, ih]
    by_cases he : e.slot = id
    · subst he
      have htwice : Slot.unfed ∘ Slot.unfed = Slot.unfed := funext Slot.unfed_unfed
      simp [htwice]
    · simp [he, Table.find_update_other slots Slot.unfed (Ne.symm he)]

/-! ### The feed-empty report (R109, R155) -/

theorem State.feedEmpty_station (s : State) : s.feedEmpty.station = s.station.afterFeedEmpty := by
  unfold State.feedEmpty Station.afterFeedEmpty
  split <;> rfl

theorem State.feedEmpty_reasons (s : State) : s.feedEmpty.reasons = s.reasonsAfterFeedEmpty := by
  unfold State.feedEmpty State.reasonsAfterFeedEmpty
  split <;> rfl

/-! ### The body (R106) -/

/-- R106: the belt emptied, before the feed-empty report. -/
def State.flushed (s : State) : State :=
  { s with slots := unfeed s.slots s.queue, queue := [], generation := s.generation + 1 }

theorem State.flushed_slot (s : State) (id : Nat) :
    s.flushed.slot id =
      if ∃ e ∈ s.queue, e.slot = id then (s.slot id).map Slot.unfed else s.slot id := find_unfeed _ _ _

theorem State.flushed_feedEmpty_slot (s : State) (id : Nat) : s.flushed.feedEmpty.slot id = s.flushed.slot id := by
  rw [State.feedEmpty_frame]
  rfl

theorem flush_busy {s : State} {e : Nat × Slot} (h : s.inHand = some e) :
    flush s = (Reply.refusedWith .busy (u16 e.1), s) := by
  rw [flush, h]

theorem flush_empties {s : State} (h : s.inHand = none) :
    flush s = (Reply.okWith (u8 s.queue.length ++ [s.generation + 1]), s.flushed.feedEmpty) := by
  rw [flush, h]
  rfl

/-- Settles O38: the two cases of the body, the slots that the emptied belt leaves, and the feed-empty report. -/
theorem flushEmptiesTheBelt : Obligations.FlushEmptiesTheBelt := by
  intro tag s hs
  refine ⟨fun e hhand => ?_, fun hhand => ?_⟩
  · exact answersUnchanged_of_body rfl rfl hs flush_ignores nofun (flush_busy hhand)
  · obtain ⟨t, hnext, hans, ht⟩ := exec_of_body rfl rfl hs flush_ignores nofun (flush_empties hhand)
    have hslot : ∀ id, t.slot id = s.flushed.slot id :=
      fun id => (State.slot_of_withPortUnitOf ht id).trans (s.flushed_feedEmpty_slot id)
    have hstation : t.station = s.station.afterFeedEmpty :=
      (congrArg State.station ht).trans s.flushed.feedEmpty_station
    have hreasons : t.reasons = s.reasonsAfterFeedEmpty :=
      (congrArg State.reasons ht).trans s.flushed.feedEmpty_reasons
    rw [State.feedEmpty_frame] at ht
    have hgeneration : t.generation = s.generation + 1 := congrArg State.generation ht
    rw [← hgeneration] at hans
    refine ⟨t, hnext, hans, congrArg State.queue ht, hgeneration, fun id hqueued => ?_, fun id hother => ?_,
      hstation, hreasons, by rw [ht]; rfl⟩
    · rw [hslot, State.flushed_slot, if_pos hqueued]
      rfl
    · rw [hslot, State.flushed_slot, if_neg (by push Not; exact hother)]

end Sys2Proof.Machine
end

section
/-! PICK of a brick that the candidate takes (05 R94, R99, R100): a request of the feeder, what the cut of a closer reads,
what settling it leaves, and the statement about it. -/

namespace Sys2Proof.Machine

/-! ### A request of the feeder (R91) -/

theorem State.queueSummary_of_withPortUnitOf {t u : State} (ht : t = u.withPortUnitOf t) :
    t.queueSummary = u.queueSummary := by
  rw [ht]
  rfl

/-- R91: a served request of the feeder answers with its body's reply and the summary of the queue that it leaves. -/
theorem exec_of_feeder_body {i : Instr} {h : Header} {body : State → Reply × State} {s : State} {r : Reply} {u : State}
    (hx : exec i s = serve i body s) (hh : i.header = some h) (hs : s.serves i = true) (hb : IgnoresPortUnit body)
    (hp : h.port = .f) (he : body s = (r, u)) :
    ∃ t, exec i s = .next t ∧ Answered s i h t { r with detail := r.detail ++ t.queueSummary } ∧
      t = u.withPortUnitOf t := by
  obtain ⟨t, hnext, hans, ht⟩ := serve_body i h body s hh hs hb
  rw [he] at hans ht
  rw [State.withSummary, if_pos hp, ← State.queueSummary_of_withPortUnitOf ht] at hans
  exact ⟨t, hx.trans hnext, hans, ht⟩

/-! ### What the cut reads (R81) -/

/-- R81: the faces below a closer are read from the records of the slots given, their runs and their kinds. -/
theorem State.cutFrom_withSlots (s : State) (slots : List (Nat × Slot)) (below : List (Nat × Slot)) :
    State.cutFrom { s with slots := slots } below = s.cutFrom below := by
  induction below with
  | nil => rfl
  | cons e below ih =>
    simp only [State.cutFrom, ih]
    rfl

/-- R81: two slot tables that show the same records give the same cut. -/
theorem State.closerCut_withSlots {s : State} {a b : List (Nat × Slot)}
    (h : ∀ id, Table.find a id = Table.find b id) (sl : Slot) :
    State.closerCut { s with slots := a } sl = State.closerCut { s with slots := b } sl := by
  have hslots : ∀ ids, State.slotsAt { s with slots := a } ids = State.slotsAt { s with slots := b } ids :=
    fun ids => by simp only [State.slotsAt, State.slot, h]
  have hraw : State.rawCut { s with slots := a } sl = State.rawCut { s with slots := b } sl := by
    simp only [State.rawCut, hslots, State.cutFrom_withSlots]
    rfl
  simp only [State.closerCut, hraw]
  rfl

/-- R81: the cut after a slot's record is changed is read from the record that the change gives. -/
theorem State.closerCut_updateSlot {s : State} {id : Nat} {sl : Slot} (hsl : s.slot id = some sl) (f : Slot → Slot) :
    (s.updateSlot id f).closerCut sl = (s.updateSlot id fun _ => f sl).closerCut sl := by
  refine State.closerCut_withSlots (s := s) (fun j => ?_) sl
  rw [Table.find_update, Table.find_update]
  by_cases hj : j = id
  · subst hj
    rw [show Table.find s.slots j = some sl from hsl]
    rfl
  · rw [if_neg hj, if_neg hj]

/-! ### What settling the cut leaves (R80, R100) -/

/-- R99: the record of a slot that a brick is assigned to. -/
def Slot.fedWith (sl : Slot) (generation : Byte) (gauged : Int) : Slot :=
  { sl with state := .fed, generation := some generation, gauged := some gauged }

/-- R54: the record of a closer that holds a cut. -/
def Slot.withCut (sl : Slot) (cut : Option Int) : Slot := { sl with cutLength := cut }

/-- R80: a run whose closer's cut is committed. -/
def Run.committed (r : Run) : Run := { r with closerCommitted := true }

theorem Run.committed_of_closerCommitted {r : Run} (h : r.closerCommitted = true) : r.committed = r := by
  cases r
  cases h
  rfl

/-- R80: a run that is not live has no committed cut (log 8). -/
theorem State.run_map_committed {s : State} {sl : Slot} (h : (s.runOf sl).closerCommitted = true) :
    (s.run sl.run).map Run.committed = s.run sl.run := by
  cases hr : s.run sl.run with
  | none => rfl
  | some r =>
    rw [State.runOf_of_run hr] at h
    rw [Option.map_some, Run.committed_of_closerCommitted h]

/-- R80, R100: what the settling of a slot's cut leaves: for a closer the cut is held and the run's cut is committed, and
nothing else is written. -/
structure CutSettled (s : State) (id : Nat) (sl : Slot) (cut : Option Int) (u : State) : Prop where
  slot : u.slot id = (s.slot id).map fun x => if sl.closer then x.withCut cut else x
  others : ∀ j, j ≠ id → u.slot j = s.slot j
  run : u.run sl.run = if sl.closer then (s.run sl.run).map Run.committed else s.run sl.run
  runs : ∀ r, r ≠ sl.run → u.run r = s.run r
  frame : u = { s with slots := u.slots, runs := u.runs }

@[simp] theorem State.updateRun_slot (s : State) (r : Nat) (f : Run → Run) (id : Nat) :
    (s.updateRun r f).slot id = s.slot id := rfl

section Settle

variable {s : State} {id : Nat} {sl : Slot}

theorem settleCut_whole (hcloser : sl.closer = false) : settleCut id sl s = (none, .none, s) := by
  simp [settleCut, hcloser]

theorem settleCut_committed (hcloser : sl.closer = true) (hcommitted : (s.runOf sl).closerCommitted = true) :
    settleCut id sl s = (sl.cutLength, .none, s) := by
  simp [settleCut, hcloser, hcommitted]

theorem settleCut_commits (hcloser : sl.closer = true) (hopen : (s.runOf sl).closerCommitted = false) :
    settleCut id sl s =
      (some (s.closerCut sl).1, (s.closerCut sl).2,
        (s.updateSlot id fun x => x.withCut (some (s.closerCut sl).1)).updateRun sl.run Run.committed) := by
  rw [settleCut, if_pos hcloser, if_neg (by rw [hopen]; exact Bool.false_ne_true)]
  rfl

theorem settleCut_settles {x : Slot} {cut : Option Int} {limit : CutLimit} {u : State} (hslot : s.slot id = some x)
    (hcut : x.cutLength = sl.cutLength) (h : settleCut id sl s = (cut, limit, u)) : CutSettled s id sl cut u := by
  cases hcloser : sl.closer with
  | false =>
    cases (settleCut_whole hcloser).symm.trans h
    exact ⟨by simp [hcloser], fun _ _ => rfl, by simp [hcloser], fun _ _ => rfl, rfl⟩
  | true =>
    cases hrun : (s.runOf sl).closerCommitted with
    | true =>
      cases (settleCut_committed hcloser hrun).symm.trans h
      refine ⟨?_, fun _ _ => rfl, ?_, fun _ _ => rfl, rfl⟩
      · rw [hslot, Option.map_some, if_pos hcloser, ← hcut]
        rfl
      · rw [if_pos hcloser, State.run_map_committed hrun]
    | false =>
      cases (settleCut_commits hcloser hrun).symm.trans h
      refine ⟨?_, fun j hj => ?_, ?_, fun r hr => State.updateRun_run_other _ _ hr, rfl⟩
      · simp [hcloser]
      · rw [State.updateRun_slot, State.updateSlot_slot_other _ _ hj]
      · rw [if_pos hcloser]
        exact State.updateRun_run_same _ _ _

end Settle

/-! ### The assignment (R94, R99) -/

section Assign

variable {s : State} {id kind : Nat} {sl : Slot} {gauged : Int}

/-- R99: the state in which the slot is FED, before its cut is settled. -/
def State.feeding (s : State) (id : Nat) (gauged : Int) : State :=
  s.updateSlot id fun x => x.fedWith s.generation gauged

/-- R99: the entry of the assigned brick. -/
def State.entryFor (s : State) (id : Nat) (sl : Slot) (gauged : Int) (cut : Option Int) : Entry :=
  { generation := s.generation, slot := id, kind := sl.kind, gauged := gauged, cutLength := cut, position := .onBelt }

/-- R88: an entry appended at the tail. -/
def State.append (s : State) (e : Entry) : State := { s with queue := s.queue ++ [e] }

theorem State.append_slot (s : State) (e : Entry) (j : Nat) : (s.append e).slot j = s.slot j := rfl

theorem State.append_run (s : State) (e : Entry) (r : Nat) : (s.append e).run r = s.run r := rfl

theorem assign_of_settleCut {cut : Option Int} {limit : CutLimit} {u : State}
    (h : settleCut id sl (s.feeding id gauged) = (cut, limit, u)) :
    assign id sl gauged s =
      (Reply.okWith (pickField s id sl cut limit), u.append (s.entryFor id sl gauged cut)) := by
  rw [State.feeding] at h
  simp only [assign, Slot.fedWith] at h ⊢
  rw [h]
  rfl

/-- R94 to R99: no check of PICK refuses or holds. -/
theorem pick_assigns (hkind : kind ≤ 7) (hparked : s.station.state = .parked) (hsevere : s.flags.severe = false)
    (hroom : s.queue.length < 6) (hcandidate : s.candidate = some (id, sl)) (hsame : kind = sl.kind)
    (hlength : magnitude (gauged - (s.kind sl.kind).length) ≤ (s.kind sl.kind).lt) :
    pick kind gauged s = assign id sl gauged s := by
  rw [pick, if_neg (not_lt.mpr hkind), if_neg (not_not.mpr hparked), if_neg (by rw [hsevere]; exact Bool.false_ne_true),
    queueCapacity, if_neg (not_le.mpr hroom), hcandidate]
  dsimp only
  rw [if_neg (not_not.mpr hsame), if_neg (not_lt.mpr hlength)]

/-- R80, R100: the cut and the indication in the three cases of an assignment. -/
theorem settleCut_feeding {cut : Option Int} {limit : CutLimit} (hsl : s.slot id = some sl)
    (hcases : (sl.closer = false ∧ cut = none ∧ limit = .none) ∨
      (sl.closer = true ∧ (s.runOf sl).closerCommitted = true ∧ cut = sl.cutLength ∧ limit = .none) ∨
      (sl.closer = true ∧ (s.runOf sl).closerCommitted = false ∧
        cut = some ((s.updateSlot id fun _ => sl.fedWith s.generation gauged).closerCut sl).1 ∧
        limit = ((s.updateSlot id fun _ => sl.fedWith s.generation gauged).closerCut sl).2)) :
    ∃ u, settleCut id sl (s.feeding id gauged) = (cut, limit, u) := by
  obtain ⟨hcloser, rfl, rfl⟩ | ⟨hcloser, hrun, rfl, rfl⟩ | ⟨hcloser, hrun, rfl, rfl⟩ := hcases
  · exact ⟨_, settleCut_whole hcloser⟩
  · exact ⟨_, settleCut_committed (s := s.feeding id gauged) hcloser hrun⟩
  · rw [← State.closerCut_updateSlot hsl fun x => x.fedWith s.generation gauged]
    exact ⟨_, settleCut_commits (s := s.feeding id gauged) hcloser hrun⟩

end Assign

/-- Settles O34: the last case of the body, the slot and the run by what settling the cut leaves. -/
theorem pickAssignsTheBrick : Obligations.PickAssignsTheBrick := by
  rintro tag kind id gauged sl _ cut limit s hs hkind hparked hsevere hroom hcandidate hsame hlength rfl hcases
  obtain ⟨hsl, -, -⟩ := State.candidate_eq_some hcandidate
  have hfed : (s.feeding id gauged).slot id = some (sl.fedWith s.generation gauged) := by
    rw [State.feeding, State.updateSlot_slot_same, hsl, Option.map_some]
  obtain ⟨u, hsettle⟩ := settleCut_feeding hsl hcases
  obtain ⟨hslot, hothers, hrun, hruns, hframe⟩ := settleCut_settles (sl := sl) hfed rfl hsettle
  have hpick := (pick_assigns hkind hparked hsevere hroom hcandidate hsame hlength).trans (assign_of_settleCut hsettle)
  obtain ⟨t, hnext, hans, ht⟩ := exec_of_feeder_body rfl rfl hs (pick_ignores kind gauged) rfl hpick
  have htslot : ∀ j, t.slot j = u.slot j := fun j => (State.slot_of_withPortUnitOf ht j).trans (u.append_slot _ j)
  have htrun : ∀ r, t.run r = u.run r := fun r => (State.run_of_withPortUnitOf ht r).trans (u.append_run _ r)
  have hqueue : u.queue = s.queue := by rw [hframe]; rfl
  refine ⟨t, hnext, hans, ?_, ?_, fun j hj => ?_, fun hcloser => ?_, fun hcloser => ?_, fun r hr => ?_, ?_⟩
  · rw [← hqueue]
    exact congrArg State.queue ht
  · rw [htslot, hslot, hfed]
    rfl
  · exact (htslot j).trans ((hothers j hj).trans (State.updateSlot_slot_other s _ hj))
  · rw [htrun, hrun, if_pos hcloser]
    rfl
  · rw [htrun, hrun, if_neg (by rw [hcloser]; exact Bool.false_ne_true)]
    rfl
  · exact (htrun r).trans (hruns r hr)
  · rw [hframe] at ht
    rw [ht]
    rfl

end Sys2Proof.Machine
end

section
/-! NEXT that issues, PLACED of a slot that is not in hand, and DECLINE (06 R112, R119, R123, R124): a request whose body
writes one slot, when no condition of NEXT holds, the bodies in each case, and the statements about them. -/

namespace Sys2Proof.Machine

/-! ### A request that writes one slot -/

/-- The slot written, the slots not written, and the frame of a request whose body changes one slot's record. -/
theorem exec_of_updateSlot {i : Instr} {h : Header} {body : State → Reply × State} {s : State} {r : Reply} {id : Nat}
    {f : Slot → Slot} (hx : exec i s = serve i body s) (hh : i.header = some h) (hs : s.serves i = true)
    (hb : IgnoresPortUnit body) (hp : h.port ≠ .f) (he : body s = (r, s.updateSlot id f)) :
    ∃ t, exec i s = .next t ∧ Answered s i h t r ∧ t.slot id = (s.slot id).map f ∧
      (∀ j, j ≠ id → t.slot j = s.slot j) ∧ t = { s.withPortUnitOf t with slots := t.slots } := by
  obtain ⟨t, hnext, hans, ht⟩ := exec_of_body hx hh hs hb hp he
  have hslot := State.slot_of_withPortUnitOf ht
  refine ⟨t, hnext, hans, (hslot id).trans (s.updateSlot_slot_same id f),
    fun j hj => (hslot j).trans (s.updateSlot_slot_other f hj), ?_⟩
  rw [ht]
  rfl

/-! ### The conditions of NEXT (R112) -/

/-- A chain of checks that answers nothing: its first check does not hold, and the rest answers nothing. -/
theorem ite_some_eq_none_iff {α : Type} {p : Prop} [Decidable p] {a : α} {x : Option α} :
    (if p then some a else x) = none ↔ ¬ p ∧ x = none := by
  split <;> simp [*]

/-- R112 conditions 2 to 6. -/
theorem State.nextHold_eq_none_iff (s : State) :
    s.nextHold = none ↔ s.filters.arm.level = true ∧ s.flags.severe = false ∧ s.station.state.inUse = true ∧
      s.station.datumValid = true ∧ s.filters.wind.level = false := by
  simp only [State.nextHold, ite_some_eq_none_iff, Bool.not_eq_false, Bool.not_eq_true, and_true]

/-- R112 condition 9. -/
theorem State.unlaidPredecessor_eq_none_iff (s : State) (sl : Slot) :
    s.unlaidPredecessor sl = none ↔ ∀ p, s.predecessor sl = some p → p.2.state = .placed ∨ p.2.state = .verified := by
  simp [State.unlaidPredecessor, Option.filter_eq_none_iff, or_iff_not_imp_left]

/-- R112 condition 10, R117. -/
theorem State.unverifiedSupport_eq_none_iff (s : State) (sl : Slot) :
    s.unverifiedSupport sl = none ↔ ∀ u ∈ s.slotsAt sl.supports, u.2.state = .verified := by
  simp only [State.unverifiedSupport, List.find?_eq_none, decide_eq_true_eq, not_not]

/-- R112 condition 11, R118. -/
theorem State.supportsSetting_eq_zero_iff (s : State) (sl : Slot) :
    s.supportsSetting sl = 0 ↔ ∀ u ∈ s.slotsAt sl.supports, s.stillSetting u.2 = 0 := by
  rw [State.supportsSetting, ← Nat.le_zero, largest_le_iff, List.forall_mem_map]
  simp only [Nat.le_zero]

/-- R112 conditions 8 to 11. -/
theorem State.headHold_eq_none_iff (s : State) (id : Nat) (sl : Slot) :
    s.headHold id sl = none ↔ s.inReach sl = true ∧ s.unlaidPredecessor sl = none ∧ s.unverifiedSupport sl = none ∧
      s.supportsSetting sl = 0 := by
  rw [State.headHold, ite_some_eq_none_iff, Bool.not_eq_false]
  refine and_congr_right fun _ => ?_
  cases s.unlaidPredecessor sl with
  | some p => simp
  | none =>
    cases s.unverifiedSupport sl with
    | some u => simp
    | none => simp

/-- R112, R119: no condition holds, so the head's slot is issued. -/
theorem next_issues {s : State} {e : Entry} {rest : List Entry} {sl : Slot} (hhand : s.inHand = none)
    (hhold : s.nextHold = none) (hqueue : s.queue = e :: rest) (hgripper : e.position = .atGripper)
    (hsl : s.slot e.slot = some sl) (hhead : s.headHold e.slot sl = none) : next s = issue e.slot sl s := by
  have honBelt : e.position ≠ .onBelt := by rw [hgripper]; nofun
  rw [next, hhand, hhold]
  dsimp only
  rw [nextAtHead, hqueue]
  dsimp only
  rw [if_neg honBelt, hsl]
  dsimp only
  rw [hhead]

/-- R120, R190: the fields of the place order, read from the state before the issue. -/
theorem State.orderField_issuedAs (s : State) (id : Nat) (sl : Slot) (c : Correction) :
    (s.updateSlot id fun _ => sl.issuedAs c).orderField id (sl.issuedAs c) =
      u16 id ++ [sl.generation.getD 0] ++ s24Field (c.targetLeft - s.station.ox) ++ s24Field (0 - s.station.oy) ++
        s24Field ((s.courseOf sl).baseZ - s.station.oz) ++ jointField (c.targetJoint.getD 0) ++
        brickField (s.currentLength sl) ++
        flagsByte [sl.reapply, c.predicted, c.clamped, sl.closer, true, c.targetJoint.isSome] ++
        u8 SlotState.issued.value := rfl

/-- Settles O39: none of the eleven conditions holds, so the body writes the issued slot and answers with its order. -/
theorem nextIssuesTheHead : Obligations.NextIssuesTheHead := by
  rintro tag e rest sl _ s hs hhand harm hsevere hstation hdatum hwind hqueue hgripper hsl hreach hpredecessor hsupports
    rfl
  have hhold : s.nextHold = none := s.nextHold_eq_none_iff.mpr ⟨harm, hsevere, hstation, hdatum, hwind⟩
  have hhead : s.headHold e.slot sl = none :=
    (s.headHold_eq_none_iff e.slot sl).mpr ⟨hreach, (s.unlaidPredecessor_eq_none_iff sl).mpr hpredecessor,
      (s.unverifiedSupport_eq_none_iff sl).mpr fun u hu => (hsupports u hu).1,
      (s.supportsSetting_eq_zero_iff sl).mpr fun u hu => (hsupports u hu).2⟩
  have hnext := next_issues hhand hhold hqueue hgripper hsl hhead
  obtain ⟨t, hexec, hans, hissued, hothers, hframe⟩ := exec_of_updateSlot rfl rfl hs next_ignores nofun hnext
  rw [State.orderField_issuedAs] at hans
  rw [hsl] at hissued
  exact ⟨t, hexec, hans, hissued, hothers, hframe⟩

/-! ### PLACED and DECLINE of a slot in each state (R123, R124) -/

section Laying

variable {id : Nat} {sl : Slot} {s : State} (hid : id < 512) (hsl : s.slot id = some sl)
include hid hsl

/-- R123: a slot that is laid. -/
theorem placed_duplicate (hstate : sl.state = .placed ∨ sl.state = .verified ∨ sl.state = .rejected) :
    placed id s = (Reply.plain .duplicate (u8 sl.state.value), s) := by
  rw [placed, withSlot_of_live _ hid hsl]
  obtain h | h | h := hstate <;> simp only [h]

/-- R123: a slot that is not laid and not in hand. -/
theorem placed_notIssued (hstate : sl.state = .planned ∨ sl.state = .fed) :
    placed id s = (Reply.refusedWith .notIssued (u8 sl.state.value), s) := by
  rw [placed, withSlot_of_live _ hid hsl]
  obtain h | h := hstate <;> simp only [h]

/-- R124: the order of an ISSUED slot is given back. -/
theorem decline_givesBack (hstate : sl.state = .issued) :
    decline id s = (Reply.okay, s.updateSlot id Slot.backToFed) := by
  rw [decline, withSlot_of_live _ hid hsl, if_pos hstate]

/-- R124: a slot in another state. -/
theorem decline_notIssued (hstate : sl.state ≠ .issued) :
    decline id s = (Reply.refusedWith .notIssued (u8 sl.state.value), s) := by
  rw [decline, withSlot_of_live _ hid hsl, if_neg hstate]

end Laying

/-- Settles O43: the five states that are not in hand, by what the body answers in them. -/
theorem placedElsewhereChangesNothing : Obligations.PlacedElsewhereChangesNothing := by
  intro tag id sl s hs hid hsl
  have hanswers : ∀ r, placed id s = (r, s) → AnswersUnchanged s (.placed tag id) ⟨.a, tag, 34⟩ r :=
    fun _ he => answersUnchanged_of_body rfl rfl hs (placed_ignores id) nofun he
  exact ⟨fun hlaid => hanswers _ (placed_duplicate hid hsl hlaid),
    fun hunlaid => hanswers _ (placed_notIssued hid hsl hunlaid)⟩

/-- Settles O44: the two cases of the body. -/
theorem declineGivesTheOrderBack : Obligations.DeclineGivesTheOrderBack := by
  intro tag id sl s hs hid hsl
  refine ⟨fun hissued => ?_, fun hother => ?_⟩
  · obtain ⟨t, hexec, hans, hslot, hothers, hframe⟩ :=
      exec_of_updateSlot rfl rfl hs (decline_ignores id) nofun (decline_givesBack hid hsl hissued)
    rw [hsl] at hslot
    exact ⟨t, hexec, hans, hslot, hothers, hframe⟩
  · exact answersUnchanged_of_body rfl rfl hs (decline_ignores id) nofun (decline_notIssued hid hsl hother)

end Sys2Proof.Machine
end

section
/-! ABSENT (07 R139, R140): what a rejection leaves, the reasons of a brick that is missing, the body in each state of the
slot, and the statement about it. -/

namespace Sys2Proof.Machine

/-! ### The state of a slot in an answer (R121, R134) -/

theorem State.slotStateField_of_slot {s : State} {id : Nat} {sl : Slot} (hsl : s.slot id = some sl) :
    s.slotStateField id = u8 sl.state.value := by
  rw [State.slotStateField, hsl]
  rfl

/-! ### A rejection (R144, R145) -/

/-- R144: the record of a slot rejected for the failures given. -/
def Slot.rejectedFor (sl : Slot) (l : List Failure) : Slot :=
  { sl with state := .rejected, rejectReasons := l.map Failure.reason }

/-- R144, R145: the slot's record, the flag REJECT, the reason SLOT_REJECTED and the offer to the geometry capture. -/
theorem State.reject_eq (s : State) (id : Nat) (sl : Slot) (port : Port) (l : List Failure) :
    s.reject id sl port l =
      { s.updateSlot id fun x => x.rejectedFor l with
        flags := { s.flags with reject := true }
        reasons := s.reasons ||| Reason.slotRejected.bit
        geometryCapture := offered s.geometryCapture
          { cls := .geometry, severity := severityOf l, time := s.siteTime, slot := some id
            course := s.capturedCourse sl.course, port := some port, detail := detailOf l }
        attn := (s.reject id sl port l).attn
        haltReq := (s.reject id sl port l).haltReq } := rfl

theorem State.reject_slot (s : State) (id : Nat) (sl : Slot) (port : Port) (l : List Failure) (j : Nat) :
    (s.reject id sl port l).slot j = (s.updateSlot id fun x => x.rejectedFor l).slot j := rfl

/-! ### The reasons of a missing brick (R140) -/

theorem missingFailures_reasons (sl : Slot) :
    (missingFailures sl).map Failure.reason = if sl.cold then [.coldJoint, .missing] else [.missing] := by
  unfold missingFailures failWhen
  cases sl.cold <;> rfl

theorem severityOf_missingFailures (sl : Slot) : severityOf (missingFailures sl) = if sl.cold then 7 else 6 := by
  unfold missingFailures failWhen
  cases sl.cold <;> rfl

/-- R145: neither COLD_JOINT nor MISSING is geometric, so no deviation stands in the list. -/
theorem detailOf_missingFailures (sl : Slot) : detailOf (missingFailures sl) = 0 := by
  unfold missingFailures failWhen
  cases sl.cold <;> rfl

/-! ### The body in each state of the slot -/

section Absent

variable {id : Nat} {sl : Slot} {s : State} (hid : id < 512) (hsl : s.slot id = some sl)
include hid hsl

/-- R139: the order of an UNCERTAIN slot is given back. -/
theorem absent_givesBack (hstate : sl.state = .uncertain) :
    absent id s = (Reply.okWith (u8 SlotState.fed.value), s.updateSlot id Slot.backToFed) := by
  have hfed : (s.updateSlot id Slot.backToFed).slot id = some sl.backToFed := by
    rw [State.updateSlot_slot_same, hsl, Option.map_some]
  rw [absent, withSlot_of_live _ hid hsl]
  simp only [hstate, State.slotStateField_of_slot hfed, Slot.backToFed]

/-- R140: a PLACED slot is rejected. -/
theorem absent_rejects (hstate : sl.state = .placed) :
    absent id s = (Reply.okWith (u8 SlotState.rejected.value), s.reject id sl .t (missingFailures sl)) := by
  have hrejected : (s.reject id sl .t (missingFailures sl)).slot id = some (sl.rejectedFor (missingFailures sl)) := by
    rw [State.reject_slot, State.updateSlot_slot_same, hsl, Option.map_some]
  rw [absent, withSlot_of_live _ hid hsl]
  simp only [hstate, State.slotStateField_of_slot hrejected, Slot.rejectedFor]

/-- R139, R140: in a state that is neither, no brick can be absent. -/
theorem absent_notApplicable (huncertain : sl.state ≠ .uncertain) (hplaced : sl.state ≠ .placed) :
    absent id s = (Reply.refusedWith .notApplicable (u8 sl.state.value), s) := by
  rw [absent, withSlot_of_live _ hid hsl]
  cases hstate : sl.state with
  | uncertain => exact absurd hstate huncertain
  | placed => exact absurd hstate hplaced
  | planned | fed | issued | verified | rejected => rfl

end Absent

/-- Settles O47: the three cases of the body; the rejection's parts by `State.reject_eq`. -/
theorem absentSettlesTheSlot : Obligations.AbsentSettlesTheSlot := by
  intro tag id sl s hs hid hsl
  refine ⟨fun huncertain => ?_, fun hplaced => ?_, fun huncertain hplaced => ?_⟩
  · obtain ⟨t, hexec, hans, hslot, hothers, hframe⟩ :=
      exec_of_updateSlot rfl rfl hs (absent_ignores id) nofun (absent_givesBack hid hsl huncertain)
    rw [hsl] at hslot
    exact ⟨t, hexec, hans, hslot, hothers, hframe⟩
  · obtain ⟨t, hexec, hans, ht⟩ :=
      exec_of_body rfl rfl hs (absent_ignores id) nofun (absent_rejects hid hsl hplaced)
    have hslot : ∀ j, t.slot j = (s.updateSlot id fun x => x.rejectedFor (missingFailures sl)).slot j :=
      fun j => (State.slot_of_withPortUnitOf ht j).trans (s.reject_slot id sl .t _ j)
    rw [State.reject_eq, severityOf_missingFailures, detailOf_missingFailures] at ht
    refine ⟨t, hexec, hans, ?_, fun j hj => (hslot j).trans (s.updateSlot_slot_other _ hj), congrArg State.flags ht,
      congrArg State.reasons ht, congrArg State.geometryCapture ht, by rw [ht]; rfl⟩
    rw [hslot, State.updateSlot_slot_same, hsl, Option.map_some, Slot.rejectedFor, missingFailures_reasons]
  · exact answersUnchanged_of_body rfl rfl hs (absent_ignores id) nofun
      (absent_notApplicable hid hsl huncertain hplaced)

end Sys2Proof.Machine
end

section
/-! Verification (07 R142): which failures the checks put in the list, in what order, and the statement about them. -/

namespace Sys2Proof.Machine

/-! ### One check -/

theorem mem_failWhen {condition : Bool} {reason : RejectReason} {deviation : Option Int} {f : Failure} :
    f ∈ failWhen condition reason deviation ↔ condition = true ∧ f = ⟨reason, deviation⟩ := by
  cases condition <;> simp [failWhen]

theorem failWhen_reasons_sublist (condition : Bool) (reason : RejectReason) (deviation : Option Int) :
    ((failWhen condition reason deviation).map Failure.reason).Sublist [reason] := by
  cases condition <;> simp [failWhen]

/-- R142: a joint below the range deviates from its lower end, one above it from its upper end. -/
theorem mem_jointFailure {lo hi : Int} {joint : Option Int} {f : Failure} :
    f ∈ jointFailure lo hi joint ↔ ∃ j, joint = some j ∧ (j < lo ∨ hi < j) ∧
      f = ⟨.joint, some (if j < lo then j - lo else j - hi)⟩ := by
  cases joint with
  | none => simp [jointFailure]
  | some j =>
    by_cases hlo : j < lo
    · simp [jointFailure, hlo]
    · by_cases hhi : hi < j <;> simp [jointFailure, hlo, hhi]

theorem jointFailure_reasons_sublist (lo hi : Int) (joint : Option Int) :
    ((jointFailure lo hi joint).map Failure.reason).Sublist [.joint] := by
  unfold jointFailure
  split
  · exact List.nil_sublist _
  · split
    · exact List.Sublist.refl _
    · split
      · exact List.Sublist.refl _
      · exact List.nil_sublist _

/-- R142: the actual joint lies between the run predecessor's measured right face and the slot's own left one. -/
theorem State.actualJoint_eq_some_iff (s : State) (sl : Slot) (m : Measurement) (joint : Int) :
    s.actualJoint sl m = some joint ↔ ∃ p q, s.predecessor sl = some p ∧ p.2.measurement = some q ∧
      joint = m.xRight - s.currentLength sl - q.xRight := by
  simp only [State.actualJoint, Option.map_eq_some_iff, Option.bind_eq_some_iff, eq_comm (b := joint)]
  exact ⟨fun ⟨q, ⟨p, hp, hq⟩, hjoint⟩ => ⟨p, q, hp, hq, hjoint⟩,
    fun ⟨p, q, hp, hq, hjoint⟩ => ⟨q, ⟨p, hp, hq⟩, hjoint⟩⟩

/-! ### The table of checks -/

/-- R142: the table, row by row: the check of a code fails, with the deviation. -/
def State.FailsWith (s : State) (sl : Slot) (m : Measurement) (deviation : Option Int) : RejectReason → Prop
  | .coldJoint => sl.cold = true ∧ deviation = none
  | .missing => False
  | .height => s.params.tolZ < magnitude (m.zTop - s.topOf (s.courseOf sl)) ∧
      deviation = some (m.zTop - s.topOf (s.courseOf sl))
  | .plane => s.params.tolY < magnitude m.yOff ∧ deviation = some m.yOff
  | .endFace => (sl.index + 1 = (s.runOf sl).n ∧ s.params.tolEnd < magnitude (m.xRight - (s.runOf sl).stop)) ∧
      deviation = some (m.xRight - (s.runOf sl).stop)
  | .position => s.params.tolX < magnitude (m.xRight - s.targetRight sl) ∧
      deviation = some (m.xRight - s.targetRight sl)
  | .joint => ∃ joint, s.actualJoint sl m = some joint ∧
      (joint < (s.profileOf sl).jmin - s.params.tolJoint ∨ (s.profileOf sl).jmax + s.params.tolJoint < joint) ∧
      deviation = some (if joint < (s.profileOf sl).jmin - s.params.tolJoint
        then joint - ((s.profileOf sl).jmin - s.params.tolJoint)
        else joint - ((s.profileOf sl).jmax + s.params.tolJoint))

/-- R142: the list of failures holds what the table says. -/
theorem State.mem_failures {s : State} {sl : Slot} {m : Measurement} {f : Failure} :
    f ∈ s.failures sl m ↔ s.FailsWith sl m f.deviation f.reason := by
  obtain ⟨reason, deviation⟩ := f
  simp only [State.failures, List.mem_append, mem_failWhen, mem_jointFailure, Failure.mk.injEq]
  cases reason <;> simp [State.FailsWith]

theorem State.mem_failures_reasons {s : State} {sl : Slot} {m : Measurement} {reason : RejectReason} :
    reason ∈ (s.failures sl m).map Failure.reason ↔ ∃ deviation, s.FailsWith sl m deviation reason := by
  rw [List.mem_map]
  constructor
  · rintro ⟨f, hf, rfl⟩
    exact ⟨f.deviation, State.mem_failures.mp hf⟩
  · rintro ⟨deviation, hfails⟩
    exact ⟨⟨reason, deviation⟩, State.mem_failures.mpr hfails, rfl⟩

/-! ### Their order -/

/-- R142: the codes stand in the order of the table, each at most once. -/
theorem State.failures_reasons_sublist (s : State) (sl : Slot) (m : Measurement) :
    ((s.failures sl m).map Failure.reason).Sublist [.coldJoint, .height, .plane, .endFace, .position, .joint] := by
  simp only [State.failures, List.map_append]
  exact (((((failWhen_reasons_sublist _ _ _).append (failWhen_reasons_sublist _ _ _)).append
    (failWhen_reasons_sublist _ _ _)).append (failWhen_reasons_sublist _ _ _)).append
    (failWhen_reasons_sublist _ _ _)).append (jointFailure_reasons_sublist _ _ _)

theorem State.failures_severities_pairwise (s : State) (sl : Slot) (m : Measurement) :
    (((s.failures sl m).map Failure.reason).map RejectReason.severity).Pairwise (· > ·) :=
  List.Pairwise.sublist ((s.failures_reasons_sublist sl m).map RejectReason.severity) (by decide)

/-- Settles O48: the rows of the table, read for the codes and for the deviations, and the order of the codes. -/
theorem verificationJudgesEveryTolerance : Obligations.VerificationJudgesEveryTolerance := by
  rintro s sl m _ rfl
  simp only [State.mem_failures_reasons, State.mem_failures]
  refine ⟨?_, ?_, ?_, ?_, ?_, ?_, ?joint, s.failures_severities_pairwise sl m, rfl, ?deviations⟩
  case deviations =>
    rintro ⟨reason, deviation⟩ hfails
    cases reason with
    | joint =>
      obtain ⟨joint, hactual, -, hdeviation⟩ := hfails
      obtain ⟨p, q, hp, hq, hjoint⟩ := (s.actualJoint_eq_some_iff sl m joint).mp hactual
      exact ⟨nofun, nofun, nofun, nofun, nofun, fun _ => ⟨p, q, joint, hp, hq, hjoint, hdeviation⟩⟩
    | missing => exact hfails.elim
    | coldJoint | height | plane | endFace | position => simpa using hfails.2
  case joint =>
    simp only [State.FailsWith, State.actualJoint_eq_some_iff]
    constructor
    · rintro ⟨_, _, ⟨p, q, hp, hq, rfl⟩, hout, -⟩
      exact ⟨p, q, hp, hq, hout⟩
    · rintro ⟨p, q, hp, hq, hout⟩
      exact ⟨_, _, ⟨p, q, hp, hq, rfl⟩, hout, rfl⟩
  all_goals simp only [State.FailsWith, exists_and_left, exists_eq, and_true, exists_false, not_false_eq_true]

end Sys2Proof.Machine
end

section
/-! TRUCK_PARKED falling (08 R158): what a filtered edge that is due does (10 R176 to R178), the loss of the slot in hand
from sight, the loss of the station, and the statement about it. -/

namespace Sys2Proof.Machine

/-! ### A filtered edge that is due -/

/-- R176: the filtered level of a line has taken the value given. -/
def State.withLevel (s : State) (line : Line) (level : Bool) : State :=
  { s with filters := s.filters.put line { s.filters.get line with level := level } }

/-- R176, R177: while the part works, the filtered level takes the edge's, the block acts, and the sense is judged. -/
theorem event_edge_of_due {line : Line} {rising : Bool} (effect : State → State) {s : State}
    (hrunning : s.hold = .running) (hdue : (s.filters.get line).edgeDue s.siteTime = true)
    (hraw : (s.filters.get line).raw = rising) :
    event (edge line rising effect) s = .next ((effect (s.withLevel line rising)).judgeEdge line rising) := by
  subst hraw
  have hheld : s.held = false := by simp [State.held, hrunning]
  rw [event_of_running _ _ hheld, edge, if_pos ⟨hdue, rfl⟩, State.acceptLevel, State.withLevel]

/-- R178: judging an edge changes the reasons and the outputs; the line's reason is raised when its sense matches. -/
theorem State.judgeEdge_frame (s : State) (line : Line) (rising : Bool) :
    s.judgeEdge line rising =
      { s with
        reasons := s.reasons |||
          (if s.senses.get line = (if rising then .rising else .falling) then (lineReason line).bit else 0)
        attn := (s.judgeEdge line rising).attn, haltReq := (s.judgeEdge line rising).haltReq } := by
  by_cases hsense : s.senses.get line = (if rising then .rising else .falling)
  · rw [State.judgeEdge, if_pos hsense, if_pos hsense]
    rfl
  · simp only [State.judgeEdge, if_neg hsense, BitVec.ofNat_eq_ofNat, BitVec.or_zero]

/-- R170: judging an edge keeps HALT_REQ in step with the severe flags. -/
theorem State.judgeEdge_haltReq {s : State} (line : Line) (rising : Bool) (hhalt : s.haltReq = s.flags.severe) :
    (s.judgeEdge line rising).haltReq = (s.judgeEdge line rising).flags.severe := by
  by_cases hsense : s.senses.get line = (if rising then .rising else .falling)
  · rw [State.judgeEdge, if_pos hsense, State.raise_haltReq, State.raise_flags]
  · rw [State.judgeEdge, if_neg hsense, hhalt]

/-! ### The slot in hand lost from sight (R129, R158) -/

/-- R129, R158: the record of a slot that has become UNCERTAIN. -/
def Slot.outOfSight (sl : Slot) : Slot := { sl with state := .uncertain }

theorem loseSight_of_issued {s : State} {id : Nat} {sl : Slot} (hissued : s.issuedSlot = some (id, sl)) :
    loseSight s = (s.updateSlot id Slot.outOfSight).raise .slotUncertain := by
  rw [loseSight, hissued]
  rfl

theorem loseSight_of_noneIssued {s : State} (hnone : s.issuedSlot = none) : loseSight s = s := by rw [loseSight, hnone]

/-- The slots, the reasons and the outputs may change; SLOT_UNCERTAIN is raised when a slot is ISSUED. -/
theorem loseSight_frame (s : State) :
    loseSight s =
      { s with
        slots := (loseSight s).slots
        reasons := s.reasons ||| (if s.issuedSlot.isSome then Reason.slotUncertain.bit else 0)
        attn := (loseSight s).attn, haltReq := (loseSight s).haltReq } := by
  cases hissued : s.issuedSlot with
  | none =>
    simp only [loseSight_of_noneIssued hissued, Option.isSome_none, if_neg Bool.false_ne_true, BitVec.ofNat_eq_ofNat,
      BitVec.or_zero]
  | some e =>
    rw [loseSight_of_issued hissued]
    rfl

/-- R170: HALT_REQ stays in step with the severe flags. -/
theorem loseSight_haltReq {s : State} (hhalt : s.haltReq = s.flags.severe) :
    (loseSight s).haltReq = (loseSight s).flags.severe := by
  cases hissued : s.issuedSlot with
  | none => rw [loseSight_of_noneIssued hissued, hhalt]
  | some e => rw [loseSight_of_issued hissued, State.raise_haltReq, State.raise_flags]

/-- R129, R158: the ISSUED slot becomes UNCERTAIN, and every other slot is kept. -/
theorem loseSight_slot {s : State} {id : Nat} {sl : Slot} (hissued : s.issuedSlot = some (id, sl))
    (hsl : s.slot id = some sl) :
    (loseSight s).slot id = some sl.outOfSight ∧ ∀ j, j ≠ id → (loseSight s).slot j = s.slot j := by
  rw [loseSight_of_issued hissued]
  refine ⟨?_, fun j hj => s.updateSlot_slot_other Slot.outOfSight hj⟩
  calc (s.updateSlot id Slot.outOfSight).slot id
    _ = (s.slot id).map Slot.outOfSight := s.updateSlot_slot_same id _
    _ = some sl.outOfSight := by rw [hsl, Option.map_some]

/-! ### The report of a lost station (R158, R163 to R166) -/

/-- R164, R170: a report derives both outputs last. -/
theorem State.report_haltReq (s : State) (r : Report) : (s.report r).haltReq = (s.report r).flags.severe := by
  unfold State.report
  split <;> rfl

/-- R163 to R166: a report of PARK_LOST; the reason FAULT is raised when the flag was clear. -/
theorem State.report_parkLost (s : State) (r : Report) (hflag : r.flag = .parkLost) :
    s.report r =
      { s with
        flags := { s.flags with parkLost := true }
        processCapture := offered s.processCapture
          { cls := .parkLost, severity := r.severity, time := s.siteTime, slot := r.slot, course := r.course
            port := r.port, detail := r.detail }
        reasons := s.reasons ||| (if s.flags.parkLost then 0 else Reason.fault.bit)
        attn := (s.report r).attn, haltReq := (s.report r).haltReq } := by
  obtain ⟨flag, severity, slot, course, port, detail⟩ := r
  subst hflag
  cases hset : s.flags.parkLost with
  | true =>
    simp only [State.report, FaultFlag.reason, FaultFlags.get, hset, if_true, BitVec.ofNat_eq_ofNat, BitVec.or_zero]
    rfl
  | false =>
    simp only [State.report, FaultFlag.reason, FaultFlags.get, hset]
    rfl

/-- R158: the station lost and the loss reported, before the slot in hand is looked at. -/
def State.stationLost (s : State) : State :=
  { s with station := { s.station with state := .lost, datumValid := false } : State }.report
    { flag := .parkLost, severity := 4, slot := s.issuedSlot.map Prod.fst
      course := s.issuedSlot.bind fun e => s.capturedCourse e.2.course
      port := none, detail := s.queue.length }

theorem State.stationLost_eq (s : State) :
    s.stationLost =
      { s with
        station := { s.station with state := .lost, datumValid := false }
        flags := { s.flags with parkLost := true }
        processCapture := offered s.processCapture
          { cls := .parkLost, severity := 4, time := s.siteTime, slot := s.issuedSlot.map Prod.fst
            course := s.issuedSlot.bind fun e => s.capturedCourse e.2.course
            port := none, detail := s.queue.length }
        reasons := s.reasons ||| (if s.flags.parkLost then 0 else Reason.fault.bit)
        attn := s.stationLost.attn, haltReq := s.stationLost.haltReq } :=
  State.report_parkLost _ _ rfl

theorem State.stationLost_slots (s : State) : s.stationLost.slots = s.slots :=
  (congrArg State.slots s.stationLost_eq :)

theorem State.stationLost_issuedSlot (s : State) : s.stationLost.issuedSlot = s.issuedSlot := by
  rw [State.issuedSlot, State.stationLost_slots, State.issuedSlot]

theorem State.stationLost_slot (s : State) (id : Nat) : s.stationLost.slot id = s.slot id := by
  rw [State.slot, State.stationLost_slots, State.slot]

/-! ### The effect of the falling edge on the Station Unit (R158) -/

theorem StationState.inUse_iff {st : StationState} : st.inUse = true ↔ st = .parked ∨ st = .draining := by
  cases st <;> decide

theorem parkLost_of_notInUse {s : State} (huse : ¬ s.station.state.inUse = true) : parkLost s = s := if_neg huse

section InUse

variable {s : State} (huse : s.station.state.inUse = true)
include huse

theorem parkLost_of_inUse : parkLost s = loseSight s.stationLost := if_pos huse

/-- R158: what changes at a station in use, with the slots and the outputs left as the effect leaves them. -/
theorem parkLost_frame :
    parkLost s =
      { s with
        slots := (parkLost s).slots
        station := { s.station with state := .lost, datumValid := false }
        flags := { s.flags with parkLost := true }
        processCapture := offered s.processCapture
          { cls := .parkLost, severity := 4, time := s.siteTime, slot := s.issuedSlot.map Prod.fst
            course := s.issuedSlot.bind fun e => s.capturedCourse e.2.course
            port := none, detail := s.queue.length }
        reasons := s.reasons ||| (if s.flags.parkLost then 0 else Reason.fault.bit) |||
          (if s.issuedSlot.isSome then Reason.slotUncertain.bit else 0)
        attn := (parkLost s).attn, haltReq := (parkLost s).haltReq } := by
  have hsight := loseSight_frame s.stationLost
  have hlost := s.stationLost_eq
  rw [State.stationLost_issuedSlot] at hsight
  rw [parkLost_of_inUse huse]
  generalize loseSight s.stationLost = u at hsight ⊢
  generalize s.stationLost = v at hsight hlost
  rw [hlost] at hsight
  exact hsight

theorem parkLost_haltReq : (parkLost s).haltReq = (parkLost s).flags.severe := by
  rw [parkLost_of_inUse huse]
  exact loseSight_haltReq (State.report_haltReq _ _)

theorem parkLost_slot {id : Nat} {sl : Slot} (hissued : s.issuedSlot = some (id, sl)) (hsl : s.slot id = some sl) :
    (parkLost s).slot id = some sl.outOfSight ∧ ∀ j, j ≠ id → (parkLost s).slot j = s.slot j := by
  rw [parkLost_of_inUse huse]
  simp only [← s.stationLost_slot] at hsl ⊢
  exact loseSight_slot (s.stationLost_issuedSlot.trans hissued) hsl

theorem parkLost_slots_of_noneIssued (hnone : s.issuedSlot = none) : (parkLost s).slots = s.slots := by
  rw [parkLost_of_inUse huse, loseSight_of_noneIssued (s.stationLost_issuedSlot.trans hnone), State.stationLost_slots]

end InUse

theorem exec_truckParkedFalling_of_due {s : State} (hrunning : s.hold = .running)
    (hdue : s.filters.parked.edgeDue s.siteTime = true) (hraw : s.filters.parked.raw = false) :
    exec .truckParkedFalling s = .next ((parkLost (s.withLevel .truckParked false)).judgeEdge .truckParked false) :=
  event_edge_of_due (line := .truckParked) parkLost hrunning hdue hraw

/-- Settles O52: the edge that is due, with its effect at a station in use and at another, and the line's own reason. -/
theorem truckParkedFallingLosesTheStation : Obligations.TruckParkedFallingLosesTheStation := by
  intro s hrunning hdue hraw
  have hexec := exec_truckParkedFalling_of_due hrunning hdue hraw
  refine ⟨fun hinUse => ⟨_, hexec, ?_⟩, fun hparked hdraining => ⟨_, hexec, ?_⟩⟩
  · have huse : (s.withLevel .truckParked false).station.state.inUse = true := StationState.inUse_iff.mpr hinUse
    have hedge := (parkLost (s.withLevel .truckParked false)).judgeEdge_frame .truckParked false
    have hhalt := State.judgeEdge_haltReq .truckParked false (parkLost_haltReq huse)
    have hlost := parkLost_frame huse
    have hslot := fun id sl => parkLost_slot (id := id) (sl := sl) huse
    have hslots := parkLost_slots_of_noneIssued huse
    generalize (parkLost (s.withLevel .truckParked false)).judgeEdge .truckParked false = t at hedge hhalt ⊢
    generalize parkLost (s.withLevel .truckParked false) = v at *
    have hkept : t.slots = v.slots := (congrArg State.slots hedge :)
    have hkeptSlot : ∀ j, t.slot j = v.slot j := fun j => congrArg (Table.find · j) hkept
    rw [hlost] at hedge
    have hflags : t.flags = { s.flags with parkLost := true } := (congrArg State.flags hedge :)
    refine ⟨(congrArg State.station hedge :), hflags, ?_, (congrArg State.processCapture hedge :),
      fun id sl hissued hsl => ?_, fun hnone => hkept.trans (hslots hnone), (congrArg State.reasons hedge :), ?_⟩
    · rw [hhalt, hflags]
      exact Bool.or_true _
    · simp only [hkeptSlot]
      exact hslot id sl hissued hsl
    · rw [hedge]
      rfl
  · have huse : ¬ (s.withLevel .truckParked false).station.state.inUse = true :=
      fun h => (StationState.inUse_iff.mp h).elim hparked hdraining
    have hedge := (s.withLevel .truckParked false).judgeEdge_frame .truckParked false
    rw [parkLost_of_notInUse huse]
    exact ⟨(congrArg State.reasons hedge :), by rw [hedge]; rfl⟩

end Sys2Proof.Machine
end

section
/-! Reports, captures and outputs (09 R164, R166, R170): what one report does, said once, and the fault that a capture
holds after a list of offers. -/

namespace Sys2Proof.Machine

/-! ### The outputs as they are derived (R170) -/

/-- Two sets have a member in common. -/
theorem and_bne_zero_iff {w : Nat} (x y : BitVec w) :
    (x &&& y != 0) = true ↔ ∃ p : Fin w, x.getLsbD p = true ∧ y.getLsbD p = true := by
  rw [bne_iff_ne, ← not_iff_not, not_not]
  constructor
  · intro hzero ⟨p, hx, hy⟩
    have hbit : (x &&& y).getLsbD p = false := by rw [hzero]; exact BitVec.getLsbD_zero
    rw [BitVec.getLsbD_and, hx, hy] at hbit
    cases hbit
  · intro hnone
    refine BitVec.eq_of_getLsbD_eq fun p hp => ?_
    rw [BitVec.getLsbD_and, BitVec.ofNat_eq_ofNat, BitVec.getLsbD_zero]
    exact Bool.eq_false_of_not_eq_true fun hboth => hnone ⟨⟨p, hp⟩, Bool.and_eq_true_iff.mp hboth⟩

theorem FaultFlags.severe_iff (f : FaultFlags) : f.severe = true ↔ f.sequence = true ∨ f.parkLost = true :=
  Bool.or_eq_true_iff

/-- R170: outputs that are derived agree with what they are derived from. -/
theorem State.deriveOutputs_outputsAgree (s : State) : s.deriveOutputs.outputsAgree :=
  ⟨and_bne_zero_iff s.reasons s.enables, s.flags.severe_iff⟩

/-! ### One report (R164) -/

/-- R165: the fault that a report offers. -/
def State.faultOf (s : State) (r : Report) : Captured :=
  { cls := r.flag.faultClass, severity := r.severity, time := s.siteTime, slot := r.slot, course := r.course
    port := r.port, detail := r.detail }

/-- R164: the four steps of a report. The outputs are derived last, from what the other three leave. -/
theorem State.report_eq (s : State) (r : Report) :
    s.report r =
      State.deriveOutputs
        { s with
          flags := s.flags.put r.flag true
          processCapture :=
            if r.flag = .reject then s.processCapture else offered s.processCapture (s.faultOf r)
          geometryCapture :=
            if r.flag = .reject then offered s.geometryCapture (s.faultOf r) else s.geometryCapture
          reasons := s.reasons ||| ((r.flag.reason (s.flags.get r.flag)).map Reason.bit).getD 0 } := by
  have hoffer : (s.putFlag r.flag true).offer r =
      { s.putFlag r.flag true with
        processCapture := if r.flag = .reject then s.processCapture else offered s.processCapture (s.faultOf r)
        geometryCapture :=
          if r.flag = .reject then offered s.geometryCapture (s.faultOf r) else s.geometryCapture } := by
    unfold State.offer
    by_cases hreject : r.flag = .reject
    · simp only [if_pos hreject]; rfl
    · simp only [if_neg hreject]; rfl
  unfold State.report
  rw [hoffer]
  cases r.flag.reason (s.flags.get r.flag) with
  | none =>
    rw [Option.map_none, Option.getD_none, BitVec.ofNat_eq_ofNat, BitVec.or_zero]
    rfl
  | some reason => rfl

theorem State.report_outputsAgree (s : State) (r : Report) : (s.report r).outputsAgree := by
  rw [State.report_eq]
  exact State.deriveOutputs_outputsAgree _

/-! ### A list of offers (R166) -/

/-- R166: the last of a list of offers is taken exactly when it is more severe than the earliest of the most severe of
the others, so what a capture holds at the end is again the earliest of the most severe. -/
theorem foldl_offered_earliest (faults : List Captured) (hne : faults ≠ []) :
    ∃ before c after, faults = before ++ c :: after ∧ faults.foldl (fun held f => offered held f) none = some c ∧
      (∀ f ∈ before, f.severity < c.severity) ∧ ∀ f ∈ after, f.severity ≤ c.severity := by
  induction faults using List.reverseRecOn with
  | nil => exact absurd rfl hne
  | append_singleton faults new ih =>
    rw [List.foldl_concat]
    by_cases hfirst : faults = []
    · subst hfirst
      exact ⟨[], new, [], rfl, rfl, by simp, by simp⟩
    obtain ⟨before, c, after, rfl, hheld, hbefore, hafter⟩ := ih hfirst
    rw [hheld, offered]
    by_cases hmore : new.severity > c.severity
    · rw [if_pos hmore]
      refine ⟨before ++ c :: after, new, [], rfl, rfl, fun f hf => ?_, by simp⟩
      rcases List.mem_append.mp hf with hf | hf
      · exact (hbefore f hf).trans hmore
      · rcases List.mem_cons.mp hf with rfl | hf
        · exact hmore
        · exact (hafter f hf).trans_lt hmore
    · rw [if_neg hmore]
      refine ⟨before, c, after ++ [new], List.append_assoc .., rfl, hbefore, fun f hf => ?_⟩
      rcases List.mem_append.mp hf with hf | hf
      · exact hafter f hf
      · rw [List.mem_singleton.mp hf]
        exact Nat.le_of_not_gt hmore

/-- Settles O11: the parts of `State.report_eq`, and the offers by induction on their list from its end. -/
theorem captureHoldsTheEarliestOfTheMostSevere : Obligations.CaptureHoldsTheEarliestOfTheMostSevere := by
  refine ⟨fun s r => ⟨s.faultOf r, rfl, ?_⟩, foldl_offered_earliest⟩
  refine ⟨s.report_flags r, ?_, ?_, ?_, s.report_outputsAgree r⟩ <;> rw [State.report_eq] <;> rfl

end Sys2Proof.Machine
end

section
/-! What the parts of every command keep: a property that neither the Port Unit nor a report can break is kept by the
arrival of a request, its service, the naming of its record and the reception of bytes (11 R184 to R187, 03 R62). -/

namespace Sys2Proof.Machine

/-- A property that no change of the Port Unit and no report breaks. -/
structure KeptAtPorts (P : State → Prop) : Prop where
  portUnit : ∀ (s : State) (ports : Ports) (inbound : List Waiting) (serving : Option Instr),
    P s → P { s with ports := ports, inbound := inbound, serving := serving }
  report : ∀ (s : State) (r : Report), P s → P (s.report r)

/-- The body of a request keeps a property of the state. -/
def Keeps (P : State → Prop) (body : State → Reply × State) : Prop := ∀ s : State, P s → P (body s).2

section Ports

variable {P : State → Prop} (hP : KeptAtPorts P) {s : State}
include hP

theorem KeptAtPorts.overrun (h : Header) (hs : P s) : P (s.overrun h) := by
  unfold State.overrun
  dsimp only
  split
  · exact hP.report _ _ (hP.portUnit s _ _ _ hs)
  · exact hP.report _ _ hs

theorem KeptAtPorts.arbitrate (hs : P s) : P s.arbitrate := by
  rw [State.arbitrate_frame]
  exact hP.portUnit s _ _ _ hs

theorem KeptAtPorts.arrive (i : Instr) (h : Header) (hs : P s) : P (s.arrive i h) := by
  unfold State.arrive
  split
  · exact hP.overrun h hs
  · exact hP.arbitrate (hP.portUnit s _ _ _ hs)

theorem KeptAtPorts.presented (i : Instr) (h : Header) (hs : P s) : P (s.presented i h) := by
  unfold State.presented
  split
  · exact hs
  · exact hP.arrive i h hs

theorem KeptAtPorts.conclude (h : Header) (r : Reply) (hs : P s) : P (s.conclude h r) := by
  rw [State.conclude_eq]
  exact hP.portUnit s _ _ _ hs

/-- R186: a request keeps what its body keeps, whether it is served now, waits or has been answered OVERRUN. -/
theorem KeptAtPorts.serve {i : Instr} {body : State → Reply × State} (hbody : Keeps P body) {t : State} (hs : P s)
    (ht : serve i body s = .next t) : P t := by
  unfold Machine.serve at ht
  split at ht
  · cases ht; exact hs
  · split at ht
    · cases ht; exact hs
    · dsimp only at ht
      split at ht
      · cases ht; exact hP.conclude _ _ (hbody _ (hP.presented _ _ hs))
      · cases ht; exact hP.presented _ _ hs

/-- R186: a command that is the service of a request keeps what the request's body keeps. -/
theorem KeptAtPorts.exec_of_serve {i : Instr} {body : State → Reply × State} (hbody : Keeps P body) {t : State}
    (hs : P s) (ht : exec i s = .next t) (hx : exec i s = Machine.serve i body s) : P t :=
  hP.serve hbody hs (hx.symm.trans ht)

/-! ### Requests that name a record that is not in use (R1, R62, R174) -/

theorem KeptAtPorts.refuseNoRecord (port : Port) (slot : Option Nat) (recordType identifier : Nat) (detail : List Byte)
    (hs : P s) : P (s.refuseNoRecord port slot recordType identifier detail).2 := by
  unfold State.refuseNoRecord State.referenceEvent
  dsimp only
  split
  · exact hP.report _ _ hs
  · exact hs

theorem KeptAtPorts.withWall {w : Nat} {body : Wall → State → Reply × State} (hbody : ∀ r, Keeps P (body r)) :
    Keeps P (withWall w body) := by
  intro s hs
  unfold Machine.withWall
  split
  · exact hP.refuseNoRecord _ _ _ _ _ hs
  · exact hbody _ s hs

theorem KeptAtPorts.withFeature {k : Nat} {body : Feature → State → Reply × State} (hbody : ∀ f, Keeps P (body f)) :
    Keeps P (withFeature k body) := by
  intro s hs
  unfold Machine.withFeature
  split
  · exact hs
  · split
    · exact hP.refuseNoRecord _ _ _ _ _ hs
    · exact hbody _ s hs

theorem KeptAtPorts.withSlot {port : Port} {id : Nat} {body : Slot → State → Reply × State}
    (hbody : ∀ sl, Keeps P (body sl)) : Keeps P (withSlot port id body) := by
  intro s hs
  unfold Machine.withSlot
  split
  · exact hs
  · split
    · exact hP.refuseNoRecord _ _ _ _ _ hs
    · exact hbody _ s hs

theorem KeptAtPorts.withCourse {w number : Nat} {body : Nat → Course → State → Reply × State}
    (hbody : ∀ e c, Keeps P (body e c)) : Keeps P (withCourse w number body) := by
  intro s hs
  unfold Machine.withCourse
  split
  · exact hs
  · split
    · exact hP.refuseNoRecord _ _ _ _ _ hs
    · split
      · exact hP.refuseNoRecord _ _ _ _ _ hs
      · exact hbody _ _ s hs

/-! ### Reception and transmission (R184, R187) -/

theorem KeptAtPorts.setReceiver (port : Port) (r : Receiver) (hs : P s) : P (s.setReceiver port r) :=
  hP.portUnit s _ _ _ hs

theorem KeptAtPorts.receiveByte (port : Port) (b : Byte) (hs : P s) : P (s.receiveByte port b) := by
  have hset := fun r => hP.setReceiver port r hs
  unfold State.receiveByte
  dsimp only
  split
  · exact hset _
  · unfold State.handOn
    split
    · exact hset _
    · split
      · exact hset _
      · exact hP.arrive _ _ (hset _)

theorem KeptAtPorts.receive (port : Port) (bytes : List Byte) (hs : P s) : P (receive port bytes s) := by
  induction bytes generalizing s with
  | nil => exact hs
  | cons b bytes ih => exact ih (hP.receiveByte port b hs)

theorem KeptAtPorts.responseLeft (port : Port) (hs : P s) : P (responseLeft port s) := by
  unfold Machine.responseLeft
  dsimp only
  split
  · exact hs
  · exact hP.portUnit s _ _ _ hs

end Ports

/-- A choice between two outcomes of a body that both have a property. -/
theorem keeps_ite {P : State → Prop} {c : Prop} [Decidable c] {a b : Reply × State} (ha : P a.2) (hb : P b.2) :
    P (if c then a else b).2 := by
  split
  · exact ha
  · exact hb

/-- R16: a parameter is written, or nothing is. -/
theorem setParam_keeps {P : State → Prop} {value lo hi : Int} {write : State → State} {s : State} (hs : P s)
    (hwrite : P (write s)) : P (setParam value lo hi write s).2 := keeps_ite hs hwrite

/-- An event inside the part keeps what its effect keeps. -/
theorem event_keeps {P : State → Prop} {effect : State → State} {s t : State} (heffect : P s → P (effect s)) (hs : P s)
    (ht : event effect s = .next t) : P t := by
  unfold event at ht
  split at ht
  · cases ht; exact hs
  · cases ht; exact heffect hs

end Sys2Proof.Machine
end

section
/-! The outputs under the bodies of the requests and the effects of the events (09 R170): what changes the reasons, the
flags or the enables derives the outputs again, and everything else leaves all of them as they were. -/

namespace Sys2Proof.Machine

/-- R170: no change of the Port Unit touches the outputs, and a report derives them. -/
theorem outputsAgree_keptAtPorts : KeptAtPorts State.outputsAgree :=
  ⟨fun _ _ _ _ hs => hs, fun s r _ => s.report_outputsAgree r⟩

theorem State.raise_outputsAgree (s : State) (r : Reason) : (s.raise r).outputsAgree :=
  State.deriveOutputs_outputsAgree _

theorem State.putFlag_outputsAgree (s : State) (flag : FaultFlag) (b : Bool) : (s.putFlag flag b).outputsAgree :=
  State.deriveOutputs_outputsAgree _

/-- R170, R180: after a full reset no reason is set and no flag, and both outputs are deasserted. -/
theorem reset_outputsAgree : State.reset.outputsAgree := State.deriveOutputs_outputsAgree State.reset

/-! ### The operations that bodies and effects share -/

section Operations

variable {s : State} (hs : s.outputsAgree)
include hs

theorem relink_outputsAgree (w : Nat) (before : Option Nat) (index : Nat) : (s.relink w before index).outputsAgree := by
  cases before <;> exact hs

theorem dropLoad_outputsAgree : s.dropLoad.outputsAgree := by
  rw [State.dropLoad_frame]
  exact hs

theorem commit_outputsAgree (entry : Nat) (runs : List (Int × Int)) : (commit s entry runs).2.outputsAgree := by
  rw [commit_frame]
  exact hs

/-- R46: a completed course raises COURSE_COMPLETE. -/
theorem completionTest_outputsAgree (entry : Nat) : (s.completionTest entry).outputsAgree := by
  unfold State.completionTest
  split
  · exact hs
  · split
    · exact State.raise_outputsAgree _ _
    · exact hs

/-- R155: a drain that is done raises DRAINED. -/
theorem feedEmpty_outputsAgree : s.feedEmpty.outputsAgree := by
  unfold State.feedEmpty
  split
  · exact State.raise_outputsAgree _ _
  · exact hs

theorem removeHead_outputsAgree : s.removeHead.outputsAgree := by
  unfold State.removeHead
  dsimp only
  split
  · exact feedEmpty_outputsAgree hs
  · exact hs

theorem place_outputsAgree (id : Nat) (sl : Slot) : (s.place id sl).outputsAgree :=
  removeHead_outputsAgree (s := s.updateSlot id _) hs

theorem verify_outputsAgree (id : Nat) (port : Port) : (s.verify id port).outputsAgree := by
  unfold State.verify
  split
  · exact hs
  · split
    · exact hs
    · split
      · exact completionTest_outputsAgree (s := s.updateSlot id _) hs _
      · exact State.report_outputsAgree _ _

theorem settleCut_outputsAgree (id : Nat) (sl : Slot) : (settleCut id sl s).2.2.outputsAgree := by
  unfold settleCut
  split
  · split <;> exact hs
  · exact hs

end Operations

/-! ### Walls, openings, kinds, profiles and parameters (01) -/

theorem wallOpen_keepsOutputs (w : Nat) (length : Int) : Keeps State.outputsAgree (wallOpen w length) := by
  intro s hs
  refine keeps_ite hs ?_
  cases s.wall w <;> exact hs

theorem wallClose_keepsOutputs (w : Nat) : Keeps State.outputsAgree (wallClose w) := by
  refine fun s hs => keeps_ite hs (outputsAgree_keptAtPorts.withWall (fun r s hs => ?_) s hs)
  cases wallCloseRefusal w r s <;> exact hs

theorem wallRead_keepsOutputs (w start : Nat) : Keeps State.outputsAgree (wallRead w start) := by
  intro s hs
  refine keeps_ite hs ?_
  cases s.wall w <;> exact hs

theorem featureInsert_keepsOutputs (w : Nat) (r : Wall) (new : Feature) :
    Keeps State.outputsAgree (featureInsert w r new) := by
  intro s hs
  refine keeps_ite hs ?_
  split
  · exact hs
  · split
    · exact hs
    · exact relink_outputsAgree hs _ _ _

theorem featureAdd_keepsOutputs (w : Nat) (xa xb zSill zHead : Int) :
    Keeps State.outputsAgree (featureAdd w xa xb zSill zHead) := fun s hs =>
  keeps_ite hs (outputsAgree_keptAtPorts.withWall
    (fun _ s hs => keeps_ite hs (featureInsert_keepsOutputs _ _ _ s hs)) s hs)

theorem featureDrop_keepsOutputs (k : Nat) : Keeps State.outputsAgree (featureDrop k) :=
  outputsAgree_keptAtPorts.withFeature fun _ _ hs =>
    keeps_ite hs (keeps_ite hs (relink_outputsAgree hs _ _ _))

theorem lintelSet_keepsOutputs (k : Nat) (topZ bearing : Int) :
    Keeps State.outputsAgree (lintelSet k topZ bearing) := fun s hs =>
  keeps_ite hs (outputsAgree_keptAtPorts.withFeature (fun _ _ hs => keeps_ite hs (keeps_ite hs hs)) s hs)

theorem configKind_keepsOutputs (k : Nat) (length height bedDepth cmin : Int) (lt : Option Int) :
    Keeps State.outputsAgree (configKind k length height bedDepth cmin lt) := fun _ hs =>
  keeps_ite hs (keeps_ite hs (keeps_ite hs hs))

theorem configProfile_keepsOutputs (k : Nat) (jn jmin jmax bn : Int) (tOpen : Option Nat) :
    Keeps State.outputsAgree (configProfile k jn jmin jmax bn tOpen) := fun _ hs =>
  keeps_ite hs (keeps_ite hs (keeps_ite hs hs))

theorem configSawStep_keepsOutputs (value : Int) : Keeps State.outputsAgree (configSawStep value) := by
  intro s hs
  refine keeps_ite hs ?_
  cases sawStepRefusal value s <;> exact hs

theorem configMinimumLap_keepsOutputs (value : Int) : Keeps State.outputsAgree (configMinimumLap value) :=
  fun _ hs => setParam_keeps hs hs

theorem configSetTime_keepsOutputs (value : Int) : Keeps State.outputsAgree (configSetTime value) :=
  fun _ hs => setParam_keeps hs hs

theorem configDatumSkew_keepsOutputs (value : Int) : Keeps State.outputsAgree (configDatumSkew value) :=
  fun _ hs => setParam_keeps hs hs

theorem configStrictReferences_keepsOutputs (value : Int) : Keeps State.outputsAgree (configStrictReferences value) :=
  fun _ hs => setParam_keeps hs hs

theorem configTolerance_keepsOutputs (parameter : Nat) (value : Int) :
    Keeps State.outputsAgree (configTolerance parameter value) := fun _ hs =>
  keeps_ite (setParam_keeps hs hs) (keeps_ite (setParam_keeps hs hs) (keeps_ite (setParam_keeps hs hs)
    (keeps_ite (setParam_keeps hs hs) (keeps_ite (setParam_keeps hs hs) hs))))

theorem configEdgeSense_keepsOutputs (parameter : Nat) (value : Int) :
    Keeps State.outputsAgree (configEdgeSense parameter value) := by
  intro s hs
  unfold configEdgeSense
  split
  · exact hs
  · exact setParam_keeps hs hs

theorem configRead_keepsOutputs (table number : Nat) : Keeps State.outputsAgree (configRead table number) := by
  intro s hs
  have hrefuse := fun identifier => outputsAgree_keptAtPorts.refuseNoRecord .p none 2 identifier [] hs
  refine keeps_ite (keeps_ite hs ?_) (keeps_ite (keeps_ite hs ?_) (keeps_ite ?_ hs))
  · cases Table.find s.kinds number with
    | none => exact hrefuse _
    | some k => exact hs
  · cases Table.find s.profiles number with
    | none => exact hrefuse _
    | some k => exact hs
  · cases s.paramValue number <;> exact hs

/-! ### Courses and slots (02 to 04) -/

theorem courseBegin_keepsOutputs (w kind profile runCount : Nat) :
    Keeps State.outputsAgree (courseBegin w kind profile runCount) := by
  refine fun s hs => keeps_ite hs (outputsAgree_keptAtPorts.withWall (fun r s hs => ?_) s hs)
  refine keeps_ite hs (keeps_ite hs (keeps_ite hs (keeps_ite hs ?_)))
  split <;> exact hs

theorem runEntry_keepsOutputs (start stop : Int) : Keeps State.outputsAgree (runEntry start stop) := by
  intro s hs
  unfold runEntry
  split
  · exact hs
  · refine keeps_ite hs (commit_outputsAgree ?_ _ _)
    exact hs

theorem courseAbandon_keepsOutputs : Keeps State.outputsAgree courseAbandon := by
  intro s hs
  unfold courseAbandon
  split
  · exact hs
  · exact dropLoad_outputsAgree hs

theorem courseRetire_keepsOutputs (w number : Nat) : Keeps State.outputsAgree (courseRetire w number) :=
  outputsAgree_keptAtPorts.withCourse fun _ _ _ hs => keeps_ite hs (keeps_ite hs (keeps_ite hs hs))

theorem courseRead_keepsOutputs (w number : Nat) (order : Option Nat) :
    Keeps State.outputsAgree (courseRead w number order) := by
  refine outputsAgree_keptAtPorts.withCourse fun e c s hs => ?_
  cases order with
  | none => exact hs
  | some o => exact keeps_ite hs hs

theorem slotRead_keepsOutputs (id : Nat) : Keeps State.outputsAgree (slotRead id) :=
  outputsAgree_keptAtPorts.withSlot fun _ _ hs => hs

theorem accept_keepsOutputs (id : Nat) : Keeps State.outputsAgree (accept id) :=
  outputsAgree_keptAtPorts.withSlot fun _ s hs =>
    keeps_ite hs (completionTest_outputsAgree (s := s.updateSlot id _) hs _)

theorem relay_keepsOutputs (id : Nat) : Keeps State.outputsAgree (relay id) := by
  refine outputsAgree_keptAtPorts.withSlot fun sl s hs => keeps_ite hs ?_
  cases s.laterFed sl with
  | some e => exact hs
  | none => cases s.loadedBy id sl <;> exact hs

theorem runSlack_keepsOutputs (w number order : Nat) : Keeps State.outputsAgree (runSlack w number order) :=
  fun s hs => keeps_ite hs (outputsAgree_keptAtPorts.withCourse (fun _ _ _ hs => keeps_ite hs hs) s hs)

/-! ### The feed queue (05) -/

theorem pick_keepsOutputs (kind : Nat) (gauged : Int) : Keeps State.outputsAgree (pick kind gauged) := by
  intro s hs
  refine keeps_ite hs (keeps_ite hs (keeps_ite hs (keeps_ite hs ?_)))
  split
  · exact hs
  · exact keeps_ite hs (keeps_ite hs (settleCut_outputsAgree (s := s.updateSlot _ _) hs _ _))

/-- R104: a delivery out of sequence is reported. -/
theorem delivered_keepsOutputs (generation : Byte) (slot : Nat) :
    Keeps State.outputsAgree (delivered generation slot) := by
  intro s hs
  have hfault : (sequenceFault slot s).2.outputsAgree := State.report_outputsAgree _ _
  refine keeps_ite hs (keeps_ite hs ?_)
  split
  · exact hfault
  · exact keeps_ite hs hfault

theorem flush_keepsOutputs : Keeps State.outputsAgree flush := by
  intro s hs
  unfold flush
  split
  · exact hs
  · refine feedEmpty_outputsAgree ?_
    exact hs

theorem queueRead_keepsOutputs : Keeps State.outputsAgree queueRead := fun _ hs => hs

/-! ### Stations (08) -/

theorem stationSet_keepsOutputs (w : Nat) (xLo xHi zHi : Int) :
    Keeps State.outputsAgree (stationSet w xLo xHi zHi) := fun s hs =>
  keeps_ite hs (keeps_ite hs (keeps_ite hs
    (outputsAgree_keptAtPorts.withWall (fun _ _ hs => keeps_ite hs hs) s hs)))

/-- R154, R155: a move of an empty belt is a drain that is done at once. -/
theorem stationMove_keepsOutputs : Keeps State.outputsAgree stationMove := by
  intro s hs
  unfold stationMove
  cases s.station.state with
  | parked => exact keeps_ite (State.raise_outputsAgree _ _) hs
  | unset => exact hs
  | draining => exact hs
  | moving => exact hs
  | lost => exact hs

theorem stationRead_keepsOutputs : Keeps State.outputsAgree stationRead := fun _ hs => hs

theorem datum_keepsOutputs (ox oy oz skew : Int) : Keeps State.outputsAgree (datum ox oy oz skew) := by
  intro s hs
  refine keeps_ite hs ?_
  split
  · exact hs
  · split
    · exact hs
    · exact keeps_ite hs hs

/-! ### The Fault Unit (09) -/

theorem status_keepsOutputs : Keeps State.outputsAgree status := fun _ hs => hs

theorem acknowledge_keepsOutputs (set : BitVec 16) : Keeps State.outputsAgree (acknowledge set) := fun _ hs =>
  keeps_ite hs (State.deriveOutputs_outputsAgree _)

theorem enable_keepsOutputs (set : BitVec 16) : Keeps State.outputsAgree (enable set) := fun _ hs =>
  keeps_ite hs (State.deriveOutputs_outputsAgree _)

theorem clearFault_keepsOutputs (n : Nat) : Keeps State.outputsAgree (clearFault n) := by
  intro s hs
  unfold clearFault
  split
  · exact hs
  · split
    · exact hs
    · exact State.putFlag_outputsAgree _ _ _

theorem captureRead_keepsOutputs (n : Nat) : Keeps State.outputsAgree (captureRead n) := fun _ hs =>
  keeps_ite hs (keeps_ite hs hs)

theorem captureClear_keepsOutputs (n : Nat) : Keeps State.outputsAgree (captureClear n) := fun _ hs =>
  keeps_ite hs (keeps_ite hs hs)

/-! ### The arm and the tracker (06, 07) -/

theorem nextAtHead_keepsOutputs : Keeps State.outputsAgree nextAtHead := by
  intro s hs
  unfold nextAtHead
  split
  · exact hs
  · refine keeps_ite hs ?_
    split
    · exact hs
    · split <;> exact hs

theorem next_keepsOutputs : Keeps State.outputsAgree next := by
  intro s hs
  unfold next
  split
  · exact hs
  · split
    · exact hs
    · exact nextAtHead_keepsOutputs s hs

theorem placed_keepsOutputs (id : Nat) : Keeps State.outputsAgree (placed id) := by
  refine outputsAgree_keptAtPorts.withSlot fun sl s hs => ?_
  have hreported : (placeReported id sl s).2.outputsAgree := verify_outputsAgree (place_outputsAgree hs id sl) id .a
  cases sl.state with
  | issued => exact hreported
  | uncertain => exact hreported
  | planned => exact hs
  | fed => exact hs
  | placed => exact hs
  | verified => exact hs
  | rejected => exact hs

theorem decline_keepsOutputs (id : Nat) : Keeps State.outputsAgree (decline id) :=
  outputsAgree_keptAtPorts.withSlot fun _ _ hs => keeps_ite hs hs

theorem measure_keepsOutputs (id : Nat) (m : Measurement) : Keeps State.outputsAgree (measure id m) := by
  refine outputsAgree_keptAtPorts.withSlot fun sl s hs => ?_
  have hstored : (s.storeMeasurement id m).outputsAgree := hs
  cases sl.state with
  | issued => exact hstored
  | uncertain => exact verify_outputsAgree (place_outputsAgree hstored id sl) id .t
  | placed => exact verify_outputsAgree hstored id .t
  | planned => exact hs
  | fed => exact hs
  | verified => exact hs
  | rejected => exact hs

/-- R140: a brick that is absent from its place is reported. -/
theorem absent_keepsOutputs (id : Nat) : Keeps State.outputsAgree (absent id) := by
  refine outputsAgree_keptAtPorts.withSlot fun sl s hs => ?_
  cases sl.state with
  | placed => exact State.report_outputsAgree _ _
  | uncertain => exact hs
  | planned => exact hs
  | fed => exact hs
  | issued => exact hs
  | verified => exact hs
  | rejected => exact hs

/-! ### Deadlines, edges and resets (02 R28, 06 R127, 10) -/

/-- R180: a full reset clears the reasons and the flags and deasserts both outputs. -/
theorem fullResetEffect_outputsAgree (hold : Hold) (s : State) : (fullResetEffect hold s).outputsAgree :=
  reset_outputsAgree

section Effects

variable {s : State} (hs : s.outputsAgree)
include hs

theorem loadTimeout_outputsAgree : (loadTimeout s).outputsAgree := by
  unfold loadTimeout
  split
  · exact hs
  · split
    · exact State.report_outputsAgree _ _
    · exact hs

theorem jointExpiry_outputsAgree (run : Nat) : (jointExpiry run s).outputsAgree := by
  unfold jointExpiry
  repeat' split
  all_goals exact hs

theorem rawChange_outputsAgree (line : Line) (asserted : Bool) : (rawChange line asserted s).outputsAgree := by
  unfold rawChange
  dsimp only
  split
  · exact hs
  · split <;> exact hs

theorem loseSight_outputsAgree : (loseSight s).outputsAgree := by
  unfold loseSight
  split
  · exact hs
  · exact State.raise_outputsAgree _ _

theorem parkLost_outputsAgree : (parkLost s).outputsAgree := by
  unfold parkLost
  split
  · exact loseSight_outputsAgree (State.report_outputsAgree _ _)
  · exact hs

theorem groundShift_outputsAgree : (groundShift s).outputsAgree := by
  unfold groundShift
  split
  · exact State.raise_outputsAgree _ _
  · exact hs

theorem judgeEdge_outputsAgree (line : Line) (rising : Bool) : (s.judgeEdge line rising).outputsAgree := by
  by_cases hsense : s.senses.get line = (if rising then .rising else .falling)
  · rw [State.judgeEdge, if_pos hsense]
    exact State.raise_outputsAgree _ _
  · rw [State.judgeEdge, if_neg hsense]
    exact hs

/-- R176 to R178: the effect of an edge is that of its block, and then the line's reason. -/
theorem edge_outputsAgree (line : Line) (rising : Bool) {effect : State → State}
    (heffect : ∀ u : State, u.outputsAgree → (effect u).outputsAgree) : (edge line rising effect s).outputsAgree := by
  unfold edge
  dsimp only
  split
  · exact judgeEdge_outputsAgree (heffect (s.acceptLevel line) hs) line rising
  · exact hs

theorem risingAfter_outputsAgree (lowMicros : Nat) : (risingAfter lowMicros s).outputsAgree := by
  have hlink : (linkResetEffect { s with resetN := true }).outputsAgree :=
    dropLoad_outputsAgree (s := { s with resetN := true }) hs
  unfold risingAfter
  split
  · exact hs
  · split
    · split
      · exact hs
      · exact hlink
    · exact hs
    · exact hs

theorem lowReaches20ms_outputsAgree : (lowReaches20ms s).outputsAgree := by
  unfold lowReaches20ms
  split
  · exact fullResetEffect_outputsAgree _ s
  · exact hs

theorem risingAfterFullReset_outputsAgree (sawPin : Bool) : (risingAfterFullReset sawPin s).outputsAgree := by
  unfold risingAfterFullReset
  split
  · exact hs
  · cases s.hold <;> exact hs

theorem supplyRelease_outputsAgree (sawPin : Bool) : (supplyRelease sawPin s).outputsAgree := by
  unfold supplyRelease
  split <;> exact hs

end Effects

end Sys2Proof.Machine
end

section
/-! ATTN and HALT_REQ in every step (09 R170): each command is a request, an event inside the part, or an event at the
pins or the supply, and each keeps the outputs derived. -/

namespace Sys2Proof.Machine

theorem event_edge_outputsAgree {line : Line} {rising : Bool} {effect : State → State}
    (heffect : ∀ u : State, u.outputsAgree → (effect u).outputsAgree) {s t : State} (hs : s.outputsAgree)
    (ht : event (edge line rising effect) s = .next t) : t.outputsAgree :=
  event_keeps (edge_outputsAgree · line rising heffect) hs ht

/-- An event at the pins or the supply, which happens whether or not the part is held. -/
theorem outputsAgree_of_next {u t : State} (hu : u.outputsAgree)
    (ht : (Host.Outcome.next u : Host.Outcome State Fault Refusal) = .next t) : t.outputsAgree := by
  cases ht
  exact hu

/-- R170: every command, by the body of its request or the effect of its event. -/
theorem exec_outputsAgree (i : Instr) {s t : State} (hs : s.outputsAgree) (ht : exec i s = .next t) :
    t.outputsAgree := by
  have request := @KeptAtPorts.exec_of_serve _ outputsAgree_keptAtPorts s
  cases i with
  | wallOpen tag wall length => exact request (wallOpen_keepsOutputs _ _) hs ht rfl
  | wallClose tag wall => exact request (wallClose_keepsOutputs _) hs ht rfl
  | wallRead tag wall start => exact request (wallRead_keepsOutputs _ _) hs ht rfl
  | featureAdd tag wall xa xb zSill zHead => exact request (featureAdd_keepsOutputs _ _ _ _ _) hs ht rfl
  | featureDrop tag feature => exact request (featureDrop_keepsOutputs _) hs ht rfl
  | lintelSet tag feature topZ bearing => exact request (lintelSet_keepsOutputs _ _ _) hs ht rfl
  | configKind tag kind length height bedDepth cmin lt =>
    exact request (configKind_keepsOutputs _ _ _ _ _ _) hs ht rfl
  | configProfile tag profile jn jmin jmax bn tOpen =>
    exact request (configProfile_keepsOutputs _ _ _ _ _ _) hs ht rfl
  | configParamSawStep tag value => exact request (configSawStep_keepsOutputs _) hs ht rfl
  | configParamMinimumLap tag value => exact request (configMinimumLap_keepsOutputs _) hs ht rfl
  | configParamTolerance tag parameter value => exact request (configTolerance_keepsOutputs _ _) hs ht rfl
  | configParamSetTime tag value => exact request (configSetTime_keepsOutputs _) hs ht rfl
  | configParamDatumSkew tag value => exact request (configDatumSkew_keepsOutputs _) hs ht rfl
  | configParamStrictReferences tag value => exact request (configStrictReferences_keepsOutputs _) hs ht rfl
  | configParamEdgeSense tag parameter value => exact request (configEdgeSense_keepsOutputs _ _) hs ht rfl
  | configRead tag table number => exact request (configRead_keepsOutputs _ _) hs ht rfl
  | courseBegin tag wall kind profile runCount => exact request (courseBegin_keepsOutputs _ _ _ _) hs ht rfl
  | runEntry tag start stop => exact request (runEntry_keepsOutputs _ _) hs ht rfl
  | courseAbandon tag => exact request courseAbandon_keepsOutputs hs ht rfl
  | courseRetire tag wall number => exact request (courseRetire_keepsOutputs _ _) hs ht rfl
  | courseRead tag wall number order => exact request (courseRead_keepsOutputs _ _ _) hs ht rfl
  | slotRead tag slot => exact request (slotRead_keepsOutputs _) hs ht rfl
  | accept tag slot => exact request (accept_keepsOutputs _) hs ht rfl
  | relay tag slot => exact request (relay_keepsOutputs _) hs ht rfl
  | runSlack tag wall number order => exact request (runSlack_keepsOutputs _ _ _) hs ht rfl
  | flush tag => exact request flush_keepsOutputs hs ht rfl
  | queueRead tag => exact request queueRead_keepsOutputs hs ht rfl
  | stationSet tag wall xLo xHi zHi => exact request (stationSet_keepsOutputs _ _ _ _) hs ht rfl
  | stationMove tag => exact request stationMove_keepsOutputs hs ht rfl
  | stationRead tag => exact request stationRead_keepsOutputs hs ht rfl
  | status tag => exact request status_keepsOutputs hs ht rfl
  | acknowledge tag reasons => exact request (acknowledge_keepsOutputs _) hs ht rfl
  | enable tag enables => exact request (enable_keepsOutputs _) hs ht rfl
  | clearFault tag flag => exact request (clearFault_keepsOutputs _) hs ht rfl
  | captureRead tag capture => exact request (captureRead_keepsOutputs _) hs ht rfl
  | captureClear tag capture => exact request (captureClear_keepsOutputs _) hs ht rfl
  | next tag => exact request next_keepsOutputs hs ht rfl
  | placed tag slot => exact request (placed_keepsOutputs _) hs ht rfl
  | decline tag slot => exact request (decline_keepsOutputs _) hs ht rfl
  | measure tag slot xRight yOff zTop => exact request (measure_keepsOutputs _ _) hs ht rfl
  | absent tag slot => exact request (absent_keepsOutputs _) hs ht rfl
  | datum tag ox oy oz skew => exact request (datum_keepsOutputs _ _ _ _) hs ht rfl
  | pick tag kind gauged => exact request (pick_keepsOutputs _ _) hs ht rfl
  | delivered tag generation slot => exact request (delivered_keepsOutputs _ _) hs ht rfl
  | loadInactivityTimeout => exact event_keeps loadTimeout_outputsAgree hs ht
  | openJointExpiry run => exact event_keeps (jointExpiry_outputsAgree · run) hs ht
  | rawInputChange line asserted => exact outputsAgree_of_next (rawChange_outputsAgree hs line asserted) ht
  | armReadyFalling => exact event_edge_outputsAgree (fun _ => loseSight_outputsAgree) hs ht
  | armReadyRising => exact event_edge_outputsAgree (fun _ hu => hu) hs ht
  | truckParkedFalling => exact event_edge_outputsAgree (fun _ => parkLost_outputsAgree) hs ht
  | truckParkedRising => exact event_edge_outputsAgree (fun _ hu => hu) hs ht
  | groundShiftRising => exact event_edge_outputsAgree (fun _ => groundShift_outputsAgree) hs ht
  | groundShiftFalling => exact event_edge_outputsAgree (fun _ hu => hu) hs ht
  | windHoldEdge => exact event_keeps (edge_outputsAgree · _ _ fun _ hu => hu) hs ht
  | resetNFalling => exact outputsAgree_of_next (u := { s with resetN := false }) hs ht
  | linkReset lowMicros => exact outputsAgree_of_next (risingAfter_outputsAgree hs lowMicros) ht
  | fullReset => exact outputsAgree_of_next (lowReaches20ms_outputsAgree hs) ht
  | fullResetRelease sawPin => exact outputsAgree_of_next (risingAfterFullReset_outputsAgree hs sawPin) ht
  | powerUp => exact outputsAgree_of_next (fullResetEffect_outputsAgree .bySupply s) ht
  | powerUpRelease sawPin => exact outputsAgree_of_next (supplyRelease_outputsAgree hs sawPin) ht
  | supplyFall => exact outputsAgree_of_next (fullResetEffect_outputsAgree .bySupply s) ht
  | frameReceived port bytes => exact event_keeps (outputsAgree_keptAtPorts.receive port bytes) hs ht
  | interByteTimeout port => exact event_keeps (outputsAgree_keptAtPorts.setReceiver port .hunt) hs ht
  | responseSent port => exact event_keeps (outputsAgree_keptAtPorts.responseLeft port) hs ht
  | stopBitLow port => exact event_keeps (outputsAgree_keptAtPorts.setReceiver port .hunt) hs ht
  | siteTimeIncrement => exact event_keeps (effect := tick) (fun hs => hs) hs ht

/-- Settles O9: the state after a full reset, and the command at the front of the queue, by what each command keeps. -/
theorem outputsFollowReasonsAndFlags : Obligations.OutputsFollowReasonsAndFlags := by
  refine ⟨⟨rfl, rfl, reset_outputsAgree⟩, fun s t hs ht => ?_⟩
  unfold step at ht
  split at ht
  · cases ht
    exact hs
  next i rest _ => exact exec_outputsAgree i (s := { s with pending := rest }) hs ht

end Sys2Proof.Machine
end

section
/-! What a command can do to the records, said once: `RecordChange` lists the changes, each with what holds when it is
made, and `exec_recordSteps` says that every command is a chain of them. A property that each change keeps is kept by
every step, so an invariant of the records is proved change by change and not command by command. -/

namespace Sys2Proof.Machine

/-! ### The records -/

/-- The records that the invariants of the records speak of, and the queue of commands that wait. -/
structure Records where
  walls : List (Nat × Wall)
  features : List (Nat × Feature)
  kinds : List (Nat × Kind)
  profiles : List (Nat × Profile)
  courses : List (Nat × Course)
  load : Option Load
  runs : List (Nat × Run)
  slots : List (Nat × Slot)
  queue : List Entry
  generation : Byte
  pending : List Instr

/-- The records of a state. -/
def State.records (s : State) : Records :=
  { walls := s.walls, features := s.features, kinds := s.kinds, profiles := s.profiles, courses := s.courses
    load := s.load, runs := s.runs, slots := s.slots, queue := s.queue, generation := s.generation
    pending := s.pending }

/-! ### Equal records, field by field -/

section Fields

variable {s t : State} (h : t.records = s.records)
include h

theorem State.walls_of_records : t.walls = s.walls := congrArg Records.walls h
theorem State.features_of_records : t.features = s.features := congrArg Records.features h
theorem State.kinds_of_records : t.kinds = s.kinds := congrArg Records.kinds h
theorem State.profiles_of_records : t.profiles = s.profiles := congrArg Records.profiles h
theorem State.courses_of_records : t.courses = s.courses := congrArg Records.courses h
theorem State.load_of_records : t.load = s.load := congrArg Records.load h
theorem State.runs_of_records : t.runs = s.runs := congrArg Records.runs h
theorem State.slots_of_records : t.slots = s.slots := congrArg Records.slots h
theorem State.queue_of_records : t.queue = s.queue := congrArg Records.queue h
theorem State.generation_of_records : t.generation = s.generation := congrArg Records.generation h
theorem State.pending_of_records : t.pending = s.pending := congrArg Records.pending h

end Fields

/-! ### The changes -/

/-- A change of a slot's record that keeps its place, its plan and its part in the queue: it neither enters nor leaves the
queue's hands, is taken into the arm's hands by no such change, and stays VERIFIED if it was. -/
structure Slot.Moves (a b : Slot) : Prop where
  course : b.course = a.course
  run : b.run = a.run
  index : b.index = a.index
  kind : b.kind = a.kind
  closer : b.closer = a.closer
  cut : a.closer = false → b.cutLength = a.cutLength
  verified : a.state = .verified → b.state = .verified
  hand : b.state.inHand = true → a.state.inHand = true
  queued : b.state.queued = a.state.queued
  tag : a.state.queued = true → b.generation = a.generation ∧ b.gauged = a.gauged ∧ b.cutLength = a.cutLength

/-- A change of a run's record that keeps its place and its slots. -/
structure Run.Moves (a b : Run) : Prop where
  course : b.course = a.course
  order : b.order = a.order
  slotIds : b.slotIds = a.slotIds

/-- R99: the entry of a slot that is fed: it lies on the belt, with the kind and, for a closer, the cut of the slot. -/
def Entry.feeds (e : Entry) (sl : Slot) : Prop :=
  e.kind = sl.kind ∧ (e.cutLength = if sl.closer then sl.cutLength else none) ∧ e.position = .onBelt

/-- One change of the records. -/
inductive RecordChange : State → State → Prop
  | same {s t : State} (h : t.records = s.records) : RecordChange s t
  | wallOpened {s : State} {w : Nat} (length : Int) (hw : w ≤ 3) (hclosed : s.wall w = none) :
      RecordChange s { s with
        walls := Table.put s.walls w
          { length := length, chainHead := 0, nextCourse := 0, baseCourse := 0, settledTop := 0 } }
  | wallClosed {s : State} {w : Nat} {r : Wall} (hr : s.wall w = some r) (hpass : wallCloseRefusal w r s = none) :
      RecordChange s { s with
        features := freeFeatures s.features (s.chain r), walls := Table.free s.walls w }
  | featureLinked {s : State} {w k : Nat} {r : Wall} {new : Feature} {before after : List (Nat × Feature)}
      (hr : s.wall w = some r) (hwall : new.wall = w) (hbare : new.lintel = none)
      (hx : 0 ≤ new.xa ∧ new.xa < new.xb ∧ new.xb ≤ r.length)
      (hz : 0 ≤ new.zSill ∧ new.zSill < new.zHead ∧ new.zHead ≤ 8388607)
      (hk : 1 ≤ k ∧ k ≤ 64) (hfree : s.feature k = none) (hchain : s.chain r = before ++ after)
      (hclear : ∀ e ∈ s.chain r, ¬ new.overlaps e.2)
      (hbefore : ∀ e ∈ before, ¬ followsNew new.xa new.zSill e)
      (hafter : ∀ e, after.head? = some e → followsNew new.xa new.zSill e) :
      RecordChange s (s.linkFeature w k new before after)
  | featureDropped {s : State} {k : Nat} {f : Feature} (hf : s.feature k = some f) :
      RecordChange s
        { s.relink f.wall (s.before (s.wallOf f) k) f.next with
          features := Table.free (s.relink f.wall (s.before (s.wallOf f) k) f.next).features k }
  | lintelPlaced {s : State} {k : Nat} {f : Feature} (l : Lintel) (hf : s.feature k = some f)
      (htop : f.zHead ≤ l.topZ ∧ l.topZ ≤ 8388607) (hbearing : 0 ≤ l.bearing ∧ l.bearing ≤ 3000) :
      RecordChange s (s.updateFeature k fun f => { f with lintel := some l })
  | kindDefined {s : State} {k : Nat} (v : Kind) (hk : k ≤ 7) :
      RecordChange s { s with kinds := Table.put s.kinds k v }
  | profileDefined {s : State} {k : Nat} (v : Profile) (hk : k ≤ 3) :
      RecordChange s { s with profiles := Table.put s.profiles k v }
  | loadOpened {s : State} {w kind profile runCount entry : Nat} {r : Wall} (hr : s.wall w = some r)
      (hload : s.load = none) (hlast : r.nextCourse ≠ 255) (hentry : entry < 48) (hempty : s.course entry = none) :
      RecordChange s (s.openLoad w kind profile runCount entry r)
  | runReceived {s : State} {l : Load} (l' : Load) (hload : s.load = some l) (hentry : l'.entry = l.entry) :
      RecordChange s { s with load := some l' }
  | committed {s : State} {l : Load} {c : Course} {r : Wall} {runs : List (Int × Int)} {plans : List RunPlan}
      (hload : s.load = some l) (hc : c = (s.course l.entry).getD Course.blank)
      (hpass : commitChecks s r c runs = .ok plans) :
      RecordChange s (allocate s l.entry c plans).2
  | loadDropped {s : State} : RecordChange s s.dropLoad
  | retired {s : State} {entry : Nat} {c : Course} {r : Wall} (hr : s.wall c.wall = some r)
      (hc : (entry, c) ∈ s.courses) (hcomplete : c.state = .complete) (hlowest : r.baseCourse = c.number) :
      RecordChange s (retire s entry c)
  | slotMoved {s : State} {id : Nat} (f : Slot → Slot) (hf : ∀ sl, s.slot id = some sl → sl.Moves (f sl)) :
      RecordChange s (s.updateSlot id f)
  | sightLost {s : State} {e : Nat × Slot} (hissued : s.issuedSlot = some e) :
      RecordChange s (s.updateSlot e.1 Slot.outOfSight)
  | runMoved {s : State} {id : Nat} (f : Run → Run) (hf : ∀ r : Run, r.Moves (f r)) :
      RecordChange s (s.updateRun id f)
  | completed {s : State} {entry : Nat} {c : Course} (hc : s.course entry = some c) (hall : s.allVerified c) :
      RecordChange s (s.updateCourse entry fun c => { c with state := .complete })
  | fed {s : State} (id : Nat) {sl : Slot} (e : Entry) (hroom : s.queue.length < 6) (hsl : s.slot id = some sl)
      (hplanned : sl.state = .planned) (hid : e.slot = id) (hgeneration : e.generation = s.generation)
      (he : e.feeds sl) :
      RecordChange s ((s.feeding id e.gauged).append e)
  | delivered {s : State} {e : Entry} {rest : List Entry} (hqueue : s.queue = e :: rest) :
      RecordChange s { s with queue := { e with position := .atGripper } :: rest }
  | flushed {s : State} (hhand : s.inHand = none) : RecordChange s s.flushed
  | issued {s : State} {e : Entry} {rest : List Entry} {sl : Slot} (c : Correction) (hhand : s.inHand = none)
      (hqueue : s.queue = e :: rest) (hhead : e.position = .atGripper) (hsl : s.slot e.slot = some sl) :
      RecordChange s (s.updateSlot e.slot fun _ => sl.issuedAs c)
  | placed {s : State} (id : Nat) {sl : Slot} (now : Time) (hsl : s.slot id = some sl)
      (hhand : sl.state.inHand = true) :
      RecordChange s { s.updateSlot id (fun sl => sl.placedAt now) with queue := s.queue.tail }
  | reset {s t : State} (h : t.records = { State.reset with pending := s.pending }.records) : RecordChange s t

/-- A chain of changes of the records. -/
abbrev RecordSteps : State → State → Prop := Relation.ReflTransGen RecordChange

theorem RecordChange.steps {s t : State} (h : RecordChange s t) : RecordSteps s t := .single h

theorem RecordSteps.same {s t : State} (h : t.records = s.records) : RecordSteps s t := (RecordChange.same h).steps

/-- A chain of changes up to a state whose records are those of another. -/
theorem RecordSteps.of_records {s t u : State} (h : RecordSteps s t) (hu : u.records = t.records) : RecordSteps s u :=
  h.trans (RecordSteps.same hu)

/-- What every change keeps, every chain of changes keeps. -/
theorem RecordSteps.keeps {P : State → Prop} (hP : ∀ s t, RecordChange s t → P s → P t) {s t : State}
    (h : RecordSteps s t) (hs : P s) : P t := by
  induction h with
  | refl => exact hs
  | tail _ hchange ih => exact hP _ _ hchange ih

/-! ### What is no change of the records -/

theorem State.report_records (s : State) (r : Report) : (s.report r).records = s.records := by
  rw [State.report_frame]
  rfl

theorem State.feedEmpty_records (s : State) : s.feedEmpty.records = s.records := by
  rw [State.feedEmpty_frame]
  rfl

/-- A chain from a given state stays one through changes of the Port Unit and reports. -/
theorem recordSteps_keptAtPorts (s : State) : KeptAtPorts (RecordSteps s) where
  portUnit _ _ _ _ h := h.of_records rfl
  report t r h := h.of_records (t.report_records r)

/-- The body of a request is a chain of changes. -/
def ChangesRecords (body : State → Reply × State) : Prop := ∀ s : State, RecordSteps s (body s).2

theorem ChangesRecords.keeps {body : State → Reply × State} (h : ChangesRecords body) (s : State) :
    Keeps (RecordSteps s) body := fun _ hs => hs.trans (h _)

/-- R1, R174: a refusal of a record not in use is no change of the records. -/
theorem refuseNoRecord_recordSteps (s : State) (port : Port) (slot : Option Nat) (recordType identifier : Nat)
    (detail : List Byte) : RecordSteps s (s.refuseNoRecord port slot recordType identifier detail).2 :=
  (recordSteps_keptAtPorts s).refuseNoRecord port slot recordType identifier detail .refl

/-- A choice between two outcomes of a body that are both chains of changes. -/
theorem recordSteps_ite {s : State} {p : Prop} [Decidable p] {a b : Reply × State} (ha : p → RecordSteps s a.2)
    (hb : ¬ p → RecordSteps s b.2) : RecordSteps s (if p then a else b).2 := by
  split
  · exact ha ‹_›
  · exact hb ‹_›

/-- A refusal, or what comes after it. -/
theorem recordSteps_unless {s : State} {p : Prop} [Decidable p] {a : Reply} {b : Reply × State}
    (hb : ¬ p → RecordSteps s b.2) : RecordSteps s (if p then (a, s) else b).2 :=
  recordSteps_ite (fun _ => .refl) hb

section Naming

variable {s : State}

theorem withWall_recordSteps {w : Nat} {body : Wall → State → Reply × State}
    (hbody : ∀ r, s.wall w = some r → RecordSteps s (body r s).2) : RecordSteps s (withWall w body s).2 := by
  unfold withWall
  split
  · exact refuseNoRecord_recordSteps ..
  · exact hbody _ ‹_›

theorem withFeature_recordSteps {k : Nat} {body : Feature → State → Reply × State}
    (hbody : ∀ f, s.feature k = some f → RecordSteps s (body f s).2) : RecordSteps s (withFeature k body s).2 := by
  refine recordSteps_unless fun _ => ?_
  split
  · exact refuseNoRecord_recordSteps ..
  · exact hbody _ ‹_›

theorem withSlot_recordSteps {port : Port} {id : Nat} {body : Slot → State → Reply × State}
    (hbody : ∀ sl, s.slot id = some sl → RecordSteps s (body sl s).2) : RecordSteps s (withSlot port id body s).2 := by
  refine recordSteps_unless fun _ => ?_
  split
  · exact refuseNoRecord_recordSteps ..
  · exact hbody _ ‹_›

theorem withCourse_recordSteps {w number : Nat} {body : Nat → Course → State → Reply × State}
    (hbody : ∀ r e c, s.wall w = some r → s.heldCourse w number = some (e, c) → RecordSteps s (body e c s).2) :
    RecordSteps s (withCourse w number body s).2 := by
  refine recordSteps_unless fun _ => ?_
  split
  · exact refuseNoRecord_recordSteps ..
  · split
    · exact refuseNoRecord_recordSteps ..
    · exact hbody _ _ _ ‹_› ‹_›

/-- R16: a parameter is written, which is no record. -/
theorem setParam_recordSteps {value lo hi : Int} {write : State → State} (hwrite : (write s).records = s.records) :
    RecordSteps s (setParam value lo hi write s).2 := recordSteps_unless fun _ => .same hwrite

end Naming

end Sys2Proof.Machine
end

section
/-! The bodies of the requests as chains of changes of the records (01 to 09). -/

namespace Sys2Proof.Machine

/-! ### Walls and openings (01) -/

theorem wallOpen_recordSteps (w : Nat) (length : Int) : ChangesRecords (wallOpen w length) := by
  refine fun s => recordSteps_unless fun hrange => ?_
  split
  · exact .refl
  · exact (RecordChange.wallOpened length (by omega) ‹_›).steps

theorem wallClose_recordSteps (w : Nat) : ChangesRecords (wallClose w) := by
  refine fun s => recordSteps_unless fun _ => withWall_recordSteps fun r hr => ?_
  split
  · exact .refl
  · exact (RecordChange.wallClosed hr ‹_›).steps

theorem wallRead_recordSteps (w start : Nat) : ChangesRecords (wallRead w start) := by
  refine fun s => recordSteps_unless fun _ => ?_
  split <;> exact .refl

theorem featureInsert_recordSteps {s : State} {w : Nat} {r : Wall} {new : Feature} (hr : s.wall w = some r)
    (hwall : new.wall = w) (hbare : new.lintel = none) (hx : 0 ≤ new.xa ∧ new.xa < new.xb ∧ new.xb ≤ r.length)
    (hz : 0 ≤ new.zSill ∧ new.zSill < new.zHead ∧ new.zHead ≤ 8388607) :
    RecordSteps s (featureInsert w r new s).2 := by
  refine recordSteps_unless fun _ => ?_
  split
  · exact .refl
  next hclear =>
    split
    · exact .refl
    next k hk =>
      have hfree := Table.mem_unused (List.mem_of_head? hk)
      have hsplit := List.takeWhile_append_dropWhile (p := fun e => !followsNew new.xa new.zSill e) (l := s.chain r)
      have hdrop := List.drop_left (l₁ := (s.chain r).takeWhile fun e => !followsNew new.xa new.zSill e)
        (l₂ := (s.chain r).dropWhile fun e => !followsNew new.xa new.zSill e)
      rw [hsplit] at hdrop
      dsimp only
      rw [hdrop]
      refine (RecordChange.featureLinked hr hwall hbare hx hz ⟨hfree.1, Nat.lt_succ_iff.mp hfree.2.1⟩ hfree.2.2
        hsplit.symm (List.find?_eq_none.mp hclear) (fun e he => ?_) fun e he => ?_).steps
      · simpa using List.mem_takeWhile_imp he
      · have hhead := List.head?_dropWhile_not (fun e => !followsNew new.xa new.zSill e) (s.chain r)
        rw [he] at hhead
        simpa using hhead

theorem featureAdd_recordSteps (w : Nat) (xa xb zSill zHead : Int) :
    ChangesRecords (featureAdd w xa xb zSill zHead) := by
  refine fun s => recordSteps_unless fun hz => withWall_recordSteps fun r hr => recordSteps_unless fun hx => ?_
  exact featureInsert_recordSteps hr rfl rfl (by dsimp only; omega) (by dsimp only; omega)

theorem featureDrop_recordSteps (k : Nat) : ChangesRecords (featureDrop k) := fun _ =>
  withFeature_recordSteps fun _ hf => recordSteps_unless fun _ => recordSteps_unless fun _ =>
    (RecordChange.featureDropped hf).steps

theorem lintelSet_recordSteps (k : Nat) (topZ bearing : Int) : ChangesRecords (lintelSet k topZ bearing) := by
  refine fun s => recordSteps_unless fun hb => withFeature_recordSteps fun f hf => recordSteps_unless fun ht =>
    recordSteps_unless fun _ => (RecordChange.lintelPlaced _ hf ?_ ?_).steps
  · dsimp only; omega
  · dsimp only; omega

/-! ### Kinds, profiles and parameters (01) -/

theorem configKind_recordSteps (k : Nat) (length height bedDepth cmin : Int) (lt : Option Int) :
    ChangesRecords (configKind k length height bedDepth cmin lt) := fun _ =>
  recordSteps_unless fun hrange => recordSteps_unless fun _ => recordSteps_unless fun _ =>
    (RecordChange.kindDefined _ (by omega)).steps

theorem configProfile_recordSteps (k : Nat) (jn jmin jmax bn : Int) (tOpen : Option Nat) :
    ChangesRecords (configProfile k jn jmin jmax bn tOpen) := fun _ =>
  recordSteps_unless fun hrange => recordSteps_unless fun _ => recordSteps_unless fun _ =>
    (RecordChange.profileDefined _ (by omega)).steps

theorem configSawStep_recordSteps (value : Int) : ChangesRecords (configSawStep value) := by
  refine fun s => recordSteps_unless fun _ => ?_
  split
  · exact .refl
  · exact .same rfl

theorem configMinimumLap_recordSteps (value : Int) : ChangesRecords (configMinimumLap value) := fun _ =>
  setParam_recordSteps rfl

theorem configSetTime_recordSteps (value : Int) : ChangesRecords (configSetTime value) := fun _ =>
  setParam_recordSteps rfl

theorem configDatumSkew_recordSteps (value : Int) : ChangesRecords (configDatumSkew value) := fun _ =>
  setParam_recordSteps rfl

theorem configStrictReferences_recordSteps (value : Int) : ChangesRecords (configStrictReferences value) := fun _ =>
  setParam_recordSteps rfl

theorem configTolerance_recordSteps (parameter : Nat) (value : Int) :
    ChangesRecords (configTolerance parameter value) := by
  have written {s : State} (write : State → State) (hwrite : (write s).records = s.records) :
      RecordSteps s (setParam value 0 200 write s).2 := setParam_recordSteps hwrite
  exact fun s => recordSteps_ite (fun _ => written _ rfl) fun _ => recordSteps_ite (fun _ => written _ rfl) fun _ =>
    recordSteps_ite (fun _ => written _ rfl) fun _ => recordSteps_ite (fun _ => written _ rfl) fun _ =>
      recordSteps_ite (fun _ => written _ rfl) fun _ => .refl

theorem configEdgeSense_recordSteps (parameter : Nat) (value : Int) :
    ChangesRecords (configEdgeSense parameter value) := by
  intro s
  unfold configEdgeSense
  split
  · exact .refl
  · exact setParam_recordSteps rfl

theorem configRead_recordSteps (table number : Nat) : ChangesRecords (configRead table number) := by
  refine fun s => recordSteps_ite (fun _ => recordSteps_unless fun _ => ?_) fun _ =>
    recordSteps_ite (fun _ => recordSteps_unless fun _ => ?_) fun _ => recordSteps_ite (fun _ => ?_) fun _ => .refl
  · split
    · exact refuseNoRecord_recordSteps ..
    · exact .refl
  · split
    · exact refuseNoRecord_recordSteps ..
    · exact .refl
  · split <;> exact .refl

/-! ### Courses (02) -/

theorem courseBegin_recordSteps (w kind profile runCount : Nat) :
    ChangesRecords (courseBegin w kind profile runCount) := by
  refine fun s => recordSteps_unless fun _ => withWall_recordSteps fun r hr => recordSteps_unless fun hload =>
    recordSteps_unless fun _ => recordSteps_unless fun _ => recordSteps_unless fun hlast => ?_
  split
  · exact .refl
  next entry hentry =>
    have hfree := Table.mem_unused (List.mem_of_head? hentry)
    exact (RecordChange.loadOpened hr (by simpa using hload) hlast (by simpa [courseCapacity] using hfree.2.1)
      hfree.2.2).steps

theorem commit_recordSteps {s : State} {l : Load} {entry : Nat} (hload : s.load = some l) (hentry : l.entry = entry)
    (runs : List (Int × Int)) : RecordSteps s (commit s entry runs).2 := by
  subst hentry
  unfold commit
  dsimp only
  split
  · exact RecordChange.loadDropped.steps
  · exact (RecordChange.committed hload rfl ‹_›).steps

/-- R26: the load once a run has been received. -/
def Load.joined (l : Load) (run : Int × Int) (now : Time) : Load :=
  { entry := l.entry, expected := l.expected - 1, received := l.received ++ [run], deadline := now + 5000 }

/-- R26: RUN ENTRY with a load: the run joins it, and the last one commits the course. -/
theorem runEntry_of_load {s : State} {l : Load} (start stop : Int) (hload : s.load = some l) :
    runEntry start stop s =
      if 1 < l.expected then
        (Reply.okWith (u8 l.received.length ++ u8 (l.expected - 1)),
          { s with load := some (l.joined (start, stop) s.siteTime) })
      else commit { s with load := some (l.joined (start, stop) s.siteTime) } l.entry
        (l.received ++ [(start, stop)]) := by
  rw [runEntry, hload]
  rfl

theorem runEntry_recordSteps (start stop : Int) : ChangesRecords (runEntry start stop) := by
  intro s
  cases hload : s.load with
  | none => rw [runEntry, hload]
  | some l =>
    have hjoin : RecordSteps s { s with load := some (l.joined (start, stop) s.siteTime) } :=
      (RecordChange.runReceived (l.joined (start, stop) s.siteTime) hload rfl).steps
    rw [runEntry_of_load start stop hload]
    exact recordSteps_ite (fun _ => hjoin) fun _ => 
      hjoin.trans (commit_recordSteps (l := l.joined (start, stop) s.siteTime) rfl rfl _)

theorem courseAbandon_recordSteps : ChangesRecords courseAbandon := by
  intro s
  unfold courseAbandon
  split
  · exact .refl
  · exact RecordChange.loadDropped.steps

theorem courseRetire_recordSteps (w number : Nat) : ChangesRecords (courseRetire w number) := by
  refine fun s => withCourse_recordSteps fun r e c hr hc => recordSteps_unless fun hcomplete =>
    recordSteps_unless fun _ => recordSteps_unless fun hlowest => ?_
  obtain ⟨hmem, rfl, rfl⟩ := State.heldCourse_some hc
  exact (RecordChange.retired hr hmem (by simpa using hcomplete) (by simpa [hr] using hlowest)).steps

theorem courseRead_recordSteps (w number : Nat) (order : Option Nat) : ChangesRecords (courseRead w number order) := by
  refine fun s => withCourse_recordSteps fun r e c _ _ => ?_
  dsimp only
  split
  · exact .refl
  · exact recordSteps_unless fun _ => .refl

theorem runSlack_recordSteps (w number order : Nat) : ChangesRecords (runSlack w number order) := fun _ =>
  recordSteps_unless fun _ => withCourse_recordSteps fun _ _ _ _ _ => recordSteps_unless fun _ => .refl

/-- R46: the completion test. -/
theorem completionTest_recordSteps (s : State) (entry : Nat) : RecordSteps s (s.completionTest entry) := by
  cases hc : s.course entry with
  | none => rw [State.completionTest, hc]
  | some c =>
    by_cases hall : s.allVerified c
    · rw [State.completionTest_completes hc hall]
      exact (RecordChange.completed hc hall).steps.of_records rfl
    · rw [State.completionTest_keeps hc hall]

end Sys2Proof.Machine
end

section
/-! The bodies of the requests about slots, the belt, the station and the faults as chains of changes of the records
(03 to 09). -/

namespace Sys2Proof.Machine

/-! ### Moves of a slot and of a run -/

/-- A change of a slot's record that keeps its state, its tag and its plan. -/
theorem Slot.Moves.of_same_state {a b : Slot} (hplace : b.course = a.course ∧ b.run = a.run ∧ b.index = a.index)
    (hplan : b.kind = a.kind ∧ b.closer = a.closer) (hstate : b.state = a.state)
    (htag : b.generation = a.generation ∧ b.gauged = a.gauged ∧ b.cutLength = a.cutLength) : a.Moves b where
  course := hplace.1
  run := hplace.2.1
  index := hplace.2.2
  kind := hplan.1
  closer := hplan.2
  cut _ := htag.2.2
  verified h := hstate.trans h
  hand h := hstate ▸ h
  queued := hstate ▸ rfl
  tag _ := htag

/-- A change of the state of a slot that is not in the queue's hands, and is not VERIFIED, to another such state. -/
theorem Slot.Moves.of_unqueued {a b : Slot} (hplace : b.course = a.course ∧ b.run = a.run ∧ b.index = a.index)
    (hplan : b.kind = a.kind ∧ b.closer = a.closer) (hcut : a.closer = false → b.cutLength = a.cutLength)
    (ha : a.state = .planned ∨ a.state = .placed ∨ a.state = .rejected)
    (hb : b.state = .planned ∨ b.state = .placed ∨ b.state = .verified ∨ b.state = .rejected) : a.Moves b where
  course := hplace.1
  run := hplace.2.1
  index := hplace.2.2
  kind := hplan.1
  closer := hplan.2
  cut := hcut
  verified h := by rcases ha with ha | ha | ha <;> rw [ha] at h <;> cases h
  hand h := by rcases hb with hb | hb | hb | hb <;> rw [hb] at h <;> cases h
  queued := by
    rcases ha with ha | ha | ha <;> rcases hb with hb | hb | hb | hb <;> rw [ha, hb] <;> rfl
  tag h := by rcases ha with ha | ha | ha <;> rw [ha] at h <;> cases h

/-- A change of the state of a slot in the arm's hands that leaves it in the queue's. -/
theorem Slot.Moves.of_hand {a b : Slot} (hplace : b.course = a.course ∧ b.run = a.run ∧ b.index = a.index)
    (hplan : b.kind = a.kind ∧ b.closer = a.closer)
    (htag : b.generation = a.generation ∧ b.gauged = a.gauged ∧ b.cutLength = a.cutLength)
    (ha : a.state = .issued ∨ a.state = .uncertain)
    (hb : b.state = .fed ∨ b.state = .uncertain) : a.Moves b where
  course := hplace.1
  run := hplace.2.1
  index := hplace.2.2
  kind := hplan.1
  closer := hplan.2
  cut _ := htag.2.2
  verified h := by rcases ha with ha | ha <;> rw [ha] at h <;> cases h
  hand _ := by rcases ha with ha | ha <;> rw [ha] <;> rfl
  queued := by rcases ha with ha | ha <;> rcases hb with hb | hb <;> rw [ha, hb] <;> rfl
  tag _ := htag

theorem Slot.afterExpiry_moves (sl : Slot) : sl.Moves sl.afterExpiry := by
  unfold Slot.afterExpiry
  split <;> exact .of_same_state ⟨rfl, rfl, rfl⟩ ⟨rfl, rfl⟩ rfl ⟨rfl, rfl, rfl⟩

theorem Slot.backToFed_moves {sl : Slot} (h : sl.state = .issued ∨ sl.state = .uncertain) : sl.Moves sl.backToFed :=
  .of_hand ⟨rfl, rfl, rfl⟩ ⟨rfl, rfl⟩ ⟨rfl, rfl, rfl⟩ h (.inl rfl)

theorem Slot.outOfSight_moves {sl : Slot} (h : sl.state = .issued) : sl.Moves sl.outOfSight :=
  .of_hand ⟨rfl, rfl, rfl⟩ ⟨rfl, rfl⟩ ⟨rfl, rfl, rfl⟩ (.inl h) (.inr rfl)

/-- One record of a slot is changed, and its record is known. -/
theorem updateSlot_recordSteps {s : State} {id : Nat} {sl : Slot} {f : Slot → Slot} (hsl : s.slot id = some sl)
    (hf : sl.Moves (f sl)) : RecordSteps s (s.updateSlot id f) :=
  (RecordChange.slotMoved f fun _ h => Option.some.inj (hsl.symm.trans h) ▸ hf).steps

theorem updateRun_recordSteps (s : State) (id : Nat) {f : Run → Run} (hf : ∀ r : Run, r.Moves (f r)) :
    RecordSteps s (s.updateRun id f) := (RecordChange.runMoved f hf).steps

/-- Two changes of one record are one change. -/
theorem Table.update_update {α : Type} (t : List (Nat × α)) (k : Nat) (f g : α → α) :
    Table.update (Table.update t k f) k g = Table.update t k fun v => g (f v) := by
  rw [Table.update, Table.update, Table.update, List.map_map]
  refine List.map_congr_left fun e _ => ?_
  by_cases h : e.1 = k <;> simp [h]

/-! ### Slots (03) -/

theorem slotRead_recordSteps (id : Nat) : ChangesRecords (slotRead id) := fun _ =>
  withSlot_recordSteps fun _ _ => .refl

theorem accept_recordSteps (id : Nat) : ChangesRecords (accept id) := by
  refine fun s => withSlot_recordSteps fun sl hsl => recordSteps_unless fun hstate => ?_
  refine .trans (updateSlot_recordSteps hsl ?_) (completionTest_recordSteps _ _)
  exact .of_unqueued ⟨rfl, rfl, rfl⟩ ⟨rfl, rfl⟩ (fun _ => rfl) (.inr (.inr (not_not.mp hstate))) (.inr (.inr (.inl rfl)))

theorem relay_recordSteps (id : Nat) : ChangesRecords (relay id) := by
  refine fun s => withSlot_recordSteps fun sl hsl => recordSteps_unless fun hstate => ?_
  split
  · exact .refl
  · split
    · exact .refl
    · refine .trans (updateSlot_recordSteps hsl ?_) (updateRun_recordSteps _ _ fun _ => ⟨rfl, rfl, rfl⟩)
      exact .of_unqueued ⟨rfl, rfl, rfl⟩ ⟨rfl, rfl⟩ (fun _ => rfl) (.inr (.inr (not_not.mp hstate))) (.inl rfl)

/-! ### The belt (05) -/

/-- R80, R99, R100: the cut of a closer is settled and the brick is assigned: the slot's cut is written while it is
PLANNED, and then it is fed. -/
theorem assign_recordSteps {s : State} {id : Nat} {sl : Slot} (gauged : Int) (hroom : s.queue.length < 6)
    (hsl : s.slot id = some sl) (hplanned : sl.state = .planned) : RecordSteps s (assign id sl gauged s).2 := by
  have hfed {s : State} {sl : Slot} (cut : Option Int) (hroom : s.queue.length < 6) (hsl : s.slot id = some sl)
      (hplanned : sl.state = .planned) (hcut : cut = if sl.closer then sl.cutLength else none) :
      RecordSteps s ((s.feeding id gauged).append (s.entryFor id sl gauged cut)) :=
    (RecordChange.fed id (s.entryFor id sl gauged cut) hroom hsl hplanned rfl rfl ⟨rfl, hcut, rfl⟩).steps
  cases hcloser : sl.closer with
  | false =>
    rw [assign_of_settleCut (settleCut_whole hcloser)]
    exact hfed none hroom hsl hplanned (by simp [hcloser])
  | true =>
    cases hrun : ((s.feeding id gauged).runOf sl).closerCommitted with
    | true =>
      rw [assign_of_settleCut (settleCut_committed hcloser hrun)]
      exact hfed sl.cutLength hroom hsl hplanned (by simp [hcloser])
    | false =>
      rw [assign_of_settleCut (settleCut_commits hcloser hrun)]
      generalize ((s.feeding id gauged).closerCut sl).1 = cut
      have hcut : RecordSteps s ((s.updateSlot id fun x => x.withCut (some cut)).updateRun sl.run Run.committed) :=
        .trans (updateSlot_recordSteps hsl (.of_unqueued ⟨rfl, rfl, rfl⟩ ⟨rfl, rfl⟩ (by simp [hcloser])
          (.inl hplanned) (.inl hplanned))) (updateRun_recordSteps _ _ fun _ => ⟨rfl, rfl, rfl⟩)
      have hslot : ((s.updateSlot id fun x => x.withCut (some cut)).updateRun sl.run Run.committed).slot id =
          some (sl.withCut (some cut)) := by
        rw [State.updateRun_slot, State.updateSlot_slot_same, hsl]
        rfl
      refine RecordSteps.of_records
        (hcut.trans (hfed (some cut) hroom hslot hplanned (by simp [Slot.withCut, hcloser]))) ?_
      simp only [State.records, State.append, State.feeding, State.updateSlot, State.updateRun, Table.update_update]
      rfl

theorem pick_recordSteps (kind : Nat) (gauged : Int) : ChangesRecords (pick kind gauged) := by
  refine fun s => recordSteps_unless fun _ => recordSteps_unless fun _ => recordSteps_unless fun _ =>
    recordSteps_unless fun hroom => ?_
  split
  · exact .refl
  next id sl hcandidate =>
    obtain ⟨hsl, hfeedable, _⟩ := State.candidate_eq_some hcandidate
    refine recordSteps_unless fun _ => recordSteps_unless fun _ => ?_
    exact assign_recordSteps gauged (Nat.lt_of_not_le hroom) hsl ((s.feedable_iff sl).mp hfeedable).1

theorem sequenceFault_recordSteps (slot : Nat) : ChangesRecords (sequenceFault slot) := fun s =>
  .same (s.report_records _)

theorem delivered_recordSteps (generation : Byte) (slot : Nat) : ChangesRecords (delivered generation slot) := by
  refine fun s => recordSteps_unless fun _ => recordSteps_unless fun _ => ?_
  split
  · exact sequenceFault_recordSteps slot s
  · exact recordSteps_ite (fun _ => (RecordChange.delivered ‹_›).steps) fun _ => sequenceFault_recordSteps slot s

theorem flush_recordSteps : ChangesRecords flush := by
  intro s
  cases hhand : s.inHand with
  | some e => rw [flush_busy hhand]
  | none =>
    rw [flush_empties hhand]
    exact (RecordChange.flushed hhand).steps.of_records (State.feedEmpty_records _)

theorem queueRead_recordSteps : ChangesRecords queueRead := fun _ => .refl

/-! ### The station (08) and the faults (09) -/

theorem stationSet_recordSteps (w : Nat) (xLo xHi zHi : Int) : ChangesRecords (stationSet w xLo xHi zHi) := fun _ =>
  recordSteps_unless fun _ => recordSteps_unless fun _ => recordSteps_unless fun _ =>
    withWall_recordSteps fun _ _ => recordSteps_unless fun _ => .same rfl

theorem stationMove_recordSteps : ChangesRecords stationMove := by
  intro s
  unfold stationMove
  split
  · exact recordSteps_ite (fun _ => .same rfl) fun _ => .same rfl
  all_goals exact .refl

theorem stationRead_recordSteps : ChangesRecords stationRead := fun _ => .refl

theorem datum_recordSteps (ox oy oz skew : Int) : ChangesRecords (datum ox oy oz skew) := by
  refine fun s => recordSteps_unless fun _ => ?_
  split
  · exact .refl
  · split
    · exact .refl
    · exact recordSteps_unless fun _ => .same rfl

theorem status_recordSteps : ChangesRecords status := fun _ => .refl

theorem acknowledge_recordSteps (set : BitVec 16) : ChangesRecords (acknowledge set) := fun _ =>
  recordSteps_unless fun _ => .same rfl

theorem enable_recordSteps (set : BitVec 16) : ChangesRecords (enable set) := fun _ =>
  recordSteps_unless fun _ => .same rfl

theorem clearFault_recordSteps (n : Nat) : ChangesRecords (clearFault n) := by
  intro s
  unfold clearFault
  split
  · exact .refl
  · split
    · exact .refl
    · exact .same rfl

theorem captureRead_recordSteps (n : Nat) : ChangesRecords (captureRead n) := fun _ =>
  recordSteps_unless fun _ => recordSteps_unless fun _ => .refl

theorem captureClear_recordSteps (n : Nat) : ChangesRecords (captureClear n) := fun _ =>
  recordSteps_ite (fun _ => .same rfl) fun _ => recordSteps_ite (fun _ => .same rfl) fun _ => .refl

/-! ### Issue, placement and verification (06, 07) -/

theorem nextAtHead_recordSteps {s : State} (hhand : s.inHand = none) : RecordSteps s (nextAtHead s).2 := by
  unfold nextAtHead
  split
  · exact .refl
  next e rest hqueue =>
    refine recordSteps_unless fun hhead => ?_
    split
    · exact .refl
    next sl hsl =>
      split
      · exact .refl
      · refine (RecordChange.issued (s.correction sl) hhand hqueue ?_ hsl).steps
        cases hposition : e.position with
        | onBelt => exact absurd hposition hhead
        | atGripper => rfl

theorem next_recordSteps : ChangesRecords next := by
  intro s
  unfold next
  split
  · exact .refl
  next hhand =>
    split
    · exact .refl
    · exact nextAtHead_recordSteps hhand

/-- R121: a placement takes the head from the queue with the slot, and then moves the run's open joint. -/
theorem place_recordSteps {s : State} {id : Nat} {held : Slot} (sl : Slot) (hsl : s.slot id = some held)
    (hhand : held.state.inHand = true) : RecordSteps s (s.place id sl) := by
  refine .trans (RecordChange.placed id s.siteTime hsl hhand).steps (.trans (RecordSteps.same ?_)
    (updateRun_recordSteps _ sl.run (f := fun r => r.afterPlaced sl.index s.siteTime (s.profileOf sl).tOpen)
      fun _ => ⟨rfl, rfl, rfl⟩))
  rw [State.removeHead_frame]
  rfl

theorem State.place_slot (s : State) (id : Nat) (sl : Slot) (j : Nat) :
    (s.place id sl).slot j = (s.updateSlot id fun sl => sl.placedAt s.siteTime).slot j := by
  unfold State.place
  dsimp only
  rw [State.updateRun_slot, State.removeHead_frame]
  rfl

/-- R143, R144: a verification of a slot that is PLACED. -/
theorem verify_recordSteps {s : State} {id : Nat} {sl : Slot} (port : Port) (hsl : s.slot id = some sl)
    (hplaced : sl.state = .placed) : RecordSteps s (s.verify id port) := by
  rw [State.verify, hsl]
  dsimp only
  split
  · exact .refl
  · split
    · refine .trans (updateSlot_recordSteps hsl ?_) (completionTest_recordSteps _ _)
      exact .of_unqueued ⟨rfl, rfl, rfl⟩ ⟨rfl, rfl⟩ (fun _ => rfl) (.inr (.inl hplaced)) (.inr (.inr (.inl rfl)))
    · refine .of_records (updateSlot_recordSteps hsl ?_) (State.report_records _ _)
      exact .of_unqueued ⟨rfl, rfl, rfl⟩ ⟨rfl, rfl⟩ (fun _ => rfl) (.inr (.inl hplaced)) (.inr (.inr (.inr rfl)))

/-- R121, R137: a placement and the verification that follows it. -/
theorem place_verify_recordSteps {s : State} {id : Nat} {held : Slot} (sl : Slot) (port : Port)
    (hsl : s.slot id = some held) (hhand : held.state.inHand = true) : RecordSteps s ((s.place id sl).verify id port) := by
  refine .trans (place_recordSteps sl hsl hhand)
    (verify_recordSteps port (sl := held.placedAt s.siteTime) ?_ rfl)
  rw [State.place_slot, State.updateSlot_slot_same, hsl]
  rfl

theorem placeReported_recordSteps {s : State} {id : Nat} {sl : Slot} (hsl : s.slot id = some sl)
    (hhand : sl.state.inHand = true) : RecordSteps s (placeReported id sl s).2 :=
  place_verify_recordSteps sl .a hsl hhand

theorem placed_recordSteps (id : Nat) : ChangesRecords (placed id) := by
  refine fun s => withSlot_recordSteps fun sl hsl => ?_
  cases hstate : sl.state with
  | issued => exact placeReported_recordSteps hsl (by rw [hstate]; rfl)
  | uncertain => exact placeReported_recordSteps hsl (by rw [hstate]; rfl)
  | _ => exact .refl

theorem decline_recordSteps (id : Nat) : ChangesRecords (decline id) := fun _ =>
  withSlot_recordSteps fun _ hsl => recordSteps_ite
    (fun hstate => updateSlot_recordSteps hsl (Slot.backToFed_moves (.inl hstate))) fun _ => .refl

theorem storeMeasurement_recordSteps {s : State} {id : Nat} (m : Measurement) :
    RecordSteps s (s.storeMeasurement id m) :=
  (RecordChange.slotMoved (fun sl => { sl with measurement := some m }) fun _ _ =>
    .of_same_state ⟨rfl, rfl, rfl⟩ ⟨rfl, rfl⟩ rfl ⟨rfl, rfl, rfl⟩).steps

theorem State.storeMeasurement_slot {s : State} {id : Nat} {sl : Slot} (m : Measurement) (hsl : s.slot id = some sl) :
    (s.storeMeasurement id m).slot id = some { sl with measurement := some m } := by
  rw [State.storeMeasurement, State.updateSlot_slot_same, hsl]
  rfl

theorem measure_recordSteps (id : Nat) (m : Measurement) : ChangesRecords (measure id m) := by
  refine fun s => withSlot_recordSteps fun sl hsl => ?_
  have hstored := State.storeMeasurement_slot m hsl
  cases hstate : sl.state with
  | issued => exact storeMeasurement_recordSteps m
  | uncertain =>
    exact (storeMeasurement_recordSteps m).trans
      (place_verify_recordSteps sl .t hstored (by simp only [hstate]; rfl))
  | placed => exact (storeMeasurement_recordSteps m).trans (verify_recordSteps .t hstored hstate)
  | _ => exact .refl

theorem absent_recordSteps (id : Nat) : ChangesRecords (absent id) := by
  refine fun s => withSlot_recordSteps fun sl hsl => ?_
  cases hstate : sl.state with
  | uncertain => exact updateSlot_recordSteps hsl (Slot.backToFed_moves (.inr hstate))
  | placed =>
    refine .of_records (updateSlot_recordSteps hsl ?_) (State.report_records _ _)
    exact .of_unqueued ⟨rfl, rfl, rfl⟩ ⟨rfl, rfl⟩ (fun _ => rfl) (.inr (.inl hstate)) (.inr (.inr (.inr rfl)))
  | _ => exact .refl

end Sys2Proof.Machine
end

section
/-! The events as chains of changes of the records, and so every command: `exec_recordSteps` (02, 06, 08, 10, 11). -/

namespace Sys2Proof.Machine

theorem loadTimeout_recordSteps (s : State) : RecordSteps s (loadTimeout s) := by
  unfold loadTimeout
  split
  · exact .refl
  · split
    · exact RecordChange.loadDropped.steps.of_records (State.report_records _ _)
    · exact .refl

theorem jointExpiry_recordSteps (run : Nat) (s : State) : RecordSteps s (jointExpiry run s) := by
  unfold jointExpiry
  split
  · exact .refl
  · split
    · exact .refl
    · split
      · have hrun : RecordSteps s (s.updateRun run fun r => { r with openJoint := none }) :=
          updateRun_recordSteps s run fun _ => ⟨rfl, rfl, rfl⟩
        dsimp only
        split
        · exact hrun
        · exact hrun.trans (RecordChange.slotMoved Slot.afterExpiry fun sl _ => sl.afterExpiry_moves).steps
      · exact .refl

/-! ### Lines and edges (10) -/

theorem rawChange_recordSteps (line : Line) (asserted : Bool) (s : State) :
    RecordSteps s (rawChange line asserted s) := by
  unfold rawChange
  dsimp only
  split
  · exact .refl
  · split <;> exact .same rfl

theorem State.judgeEdge_records (s : State) (line : Line) (rising : Bool) :
    (s.judgeEdge line rising).records = s.records := by
  rw [State.judgeEdge_frame]
  rfl

theorem edge_recordSteps (line : Line) (rising : Bool) {effect : State → State}
    (heffect : ∀ u : State, RecordSteps u (effect u)) (s : State) : RecordSteps s (edge line rising effect s) := by
  unfold edge
  dsimp only
  split
  · have haccepted : RecordSteps s (s.acceptLevel line) := .same rfl
    exact .of_records (haccepted.trans (heffect _)) (State.judgeEdge_records _ _ _)
  · exact .refl

/-- R129, R158: a slot that was ISSUED is out of sight. -/
theorem loseSight_recordSteps (s : State) : RecordSteps s (loseSight s) := by
  unfold loseSight
  split
  · exact .refl
  next e hissued => exact .of_records (RecordChange.sightLost hissued).steps rfl

theorem parkLost_recordSteps (s : State) : RecordSteps s (parkLost s) := by
  by_cases huse : s.station.state.inUse = true
  · rw [parkLost_of_inUse huse]
    have hlost : RecordSteps s s.stationLost := .same (State.report_records _ _)
    exact hlost.trans (loseSight_recordSteps _)
  · rw [parkLost_of_notInUse huse]

theorem groundShift_recordSteps (s : State) : RecordSteps s (groundShift s) := by
  unfold groundShift
  split
  · exact .same rfl
  · exact .refl

/-! ### Resets (10) -/

theorem fullResetEffect_recordSteps (hold : Hold) (s : State) : RecordSteps s (fullResetEffect hold s) :=
  (RecordChange.reset (t := fullResetEffect hold s) rfl).steps

theorem risingAfter_recordSteps (lowMicros : Nat) (s : State) : RecordSteps s (risingAfter lowMicros s) := by
  unfold risingAfter
  split
  · exact .refl
  · split
    · split
      · exact .same rfl
      · have hraised : RecordSteps s { s with resetN := true } := .same rfl
        exact .of_records (hraised.trans RecordChange.loadDropped.steps) rfl
    · exact .same rfl
    · exact .refl

theorem lowReaches20ms_recordSteps (s : State) : RecordSteps s (lowReaches20ms s) := by
  unfold lowReaches20ms
  split
  · exact fullResetEffect_recordSteps _ s
  · exact .refl

theorem risingAfterFullReset_recordSteps (sawPin : Bool) (s : State) :
    RecordSteps s (risingAfterFullReset sawPin s) := by
  unfold risingAfterFullReset
  split
  · exact .refl
  · split
    · exact .same rfl
    · exact .same rfl
    · exact .refl

theorem supplyRelease_recordSteps (sawPin : Bool) (s : State) : RecordSteps s (supplyRelease sawPin s) := by
  unfold supplyRelease
  split
  · exact .same rfl
  · exact .refl

/-! ### Every command -/

theorem event_recordSteps {effect : State → State} {s t : State} (heffect : RecordSteps s (effect s))
    (ht : event effect s = .next t) : RecordSteps s t :=
  event_keeps (P := RecordSteps s) (fun _ => heffect) .refl ht

theorem recordSteps_of_next {s u t : State} (hu : RecordSteps s u)
    (ht : (Host.Outcome.next u : Host.Outcome State Fault Refusal) = .next t) : RecordSteps s t := by
  cases ht
  exact hu

/-- Every command is a chain of changes of the records. -/
theorem exec_recordSteps (i : Instr) {s t : State} (ht : exec i s = .next t) : RecordSteps s t := by
  have hports := recordSteps_keptAtPorts s
  have request {body : State → Reply × State} (hbody : ChangesRecords body) (hx : exec i s = serve i body s) :
      RecordSteps s t := hports.exec_of_serve (hbody.keeps s) .refl ht hx
  cases i with
  | wallOpen tag wall length => exact request (wallOpen_recordSteps _ _) rfl
  | wallClose tag wall => exact request (wallClose_recordSteps _) rfl
  | wallRead tag wall start => exact request (wallRead_recordSteps _ _) rfl
  | featureAdd tag wall xa xb zSill zHead => exact request (featureAdd_recordSteps _ _ _ _ _) rfl
  | featureDrop tag feature => exact request (featureDrop_recordSteps _) rfl
  | lintelSet tag feature topZ bearing => exact request (lintelSet_recordSteps _ _ _) rfl
  | configKind tag kind length height bedDepth cmin lt => exact request (configKind_recordSteps _ _ _ _ _ _) rfl
  | configProfile tag profile jn jmin jmax bn tOpen => exact request (configProfile_recordSteps _ _ _ _ _ _) rfl
  | configParamSawStep tag value => exact request (configSawStep_recordSteps _) rfl
  | configParamMinimumLap tag value => exact request (configMinimumLap_recordSteps _) rfl
  | configParamTolerance tag parameter value => exact request (configTolerance_recordSteps _ _) rfl
  | configParamSetTime tag value => exact request (configSetTime_recordSteps _) rfl
  | configParamDatumSkew tag value => exact request (configDatumSkew_recordSteps _) rfl
  | configParamStrictReferences tag value => exact request (configStrictReferences_recordSteps _) rfl
  | configParamEdgeSense tag parameter value => exact request (configEdgeSense_recordSteps _ _) rfl
  | configRead tag table number => exact request (configRead_recordSteps _ _) rfl
  | courseBegin tag wall kind profile runCount => exact request (courseBegin_recordSteps _ _ _ _) rfl
  | runEntry tag start stop => exact request (runEntry_recordSteps _ _) rfl
  | courseAbandon tag => exact request courseAbandon_recordSteps rfl
  | courseRetire tag wall number => exact request (courseRetire_recordSteps _ _) rfl
  | courseRead tag wall number order => exact request (courseRead_recordSteps _ _ _) rfl
  | slotRead tag slot => exact request (slotRead_recordSteps _) rfl
  | accept tag slot => exact request (accept_recordSteps _) rfl
  | relay tag slot => exact request (relay_recordSteps _) rfl
  | runSlack tag wall number order => exact request (runSlack_recordSteps _ _ _) rfl
  | flush tag => exact request flush_recordSteps rfl
  | queueRead tag => exact request queueRead_recordSteps rfl
  | stationSet tag wall xLo xHi zHi => exact request (stationSet_recordSteps _ _ _ _) rfl
  | stationMove tag => exact request stationMove_recordSteps rfl
  | stationRead tag => exact request stationRead_recordSteps rfl
  | status tag => exact request status_recordSteps rfl
  | acknowledge tag reasons => exact request (acknowledge_recordSteps _) rfl
  | enable tag enables => exact request (enable_recordSteps _) rfl
  | clearFault tag flag => exact request (clearFault_recordSteps _) rfl
  | captureRead tag capture => exact request (captureRead_recordSteps _) rfl
  | captureClear tag capture => exact request (captureClear_recordSteps _) rfl
  | next tag => exact request next_recordSteps rfl
  | placed tag slot => exact request (placed_recordSteps _) rfl
  | decline tag slot => exact request (decline_recordSteps _) rfl
  | measure tag slot xRight yOff zTop => exact request (measure_recordSteps _ _) rfl
  | absent tag slot => exact request (absent_recordSteps _) rfl
  | datum tag ox oy oz skew => exact request (datum_recordSteps _ _ _ _) rfl
  | pick tag kind gauged => exact request (pick_recordSteps _ _) rfl
  | delivered tag generation slot => exact request (delivered_recordSteps _ _) rfl
  | loadInactivityTimeout => exact event_recordSteps (loadTimeout_recordSteps s) ht
  | openJointExpiry run => exact event_recordSteps (jointExpiry_recordSteps run s) ht
  | rawInputChange line asserted => exact recordSteps_of_next (rawChange_recordSteps line asserted s) ht
  | armReadyFalling => exact event_recordSteps (edge_recordSteps _ _ loseSight_recordSteps s) ht
  | armReadyRising => exact event_recordSteps (edge_recordSteps _ _ (fun _ => .refl) s) ht
  | truckParkedFalling => exact event_recordSteps (edge_recordSteps _ _ parkLost_recordSteps s) ht
  | truckParkedRising => exact event_recordSteps (edge_recordSteps _ _ (fun _ => .refl) s) ht
  | groundShiftRising => exact event_recordSteps (edge_recordSteps _ _ groundShift_recordSteps s) ht
  | groundShiftFalling => exact event_recordSteps (edge_recordSteps _ _ (fun _ => .refl) s) ht
  | windHoldEdge => exact event_recordSteps (edge_recordSteps _ _ (fun _ => .refl) s) ht
  | resetNFalling => exact recordSteps_of_next (u := { s with resetN := false }) (.same rfl) ht
  | linkReset lowMicros => exact recordSteps_of_next (risingAfter_recordSteps lowMicros s) ht
  | fullReset => exact recordSteps_of_next (lowReaches20ms_recordSteps s) ht
  | fullResetRelease sawPin => exact recordSteps_of_next (risingAfterFullReset_recordSteps sawPin s) ht
  | powerUp => exact recordSteps_of_next (fullResetEffect_recordSteps .bySupply s) ht
  | powerUpRelease sawPin => exact recordSteps_of_next (supplyRelease_recordSteps sawPin s) ht
  | supplyFall => exact recordSteps_of_next (fullResetEffect_recordSteps .bySupply s) ht
  | frameReceived port bytes => exact event_recordSteps (hports.receive port bytes .refl) ht
  | interByteTimeout port => exact event_recordSteps (hports.setReceiver port .hunt .refl) ht
  | responseSent port => exact event_recordSteps (hports.responseLeft port .refl) ht
  | stopBitLow port => exact event_recordSteps (hports.setReceiver port .hunt .refl) ht
  | siteTimeIncrement => exact event_recordSteps (effect := tick) (.same rfl) ht

/-- What every change of the records keeps, and taking a command from the queue keeps, every step keeps. -/
theorem step_keeps {P : State → Prop} (hP : ∀ s t, RecordChange s t → P s → P t)
    (hpending : ∀ (s : State) (rest : List Instr), P s → P { s with pending := rest }) {s t : State} (hs : P s)
    (ht : step s = .next t) : P t := by
  unfold step at ht
  split at ht
  · cases ht
    exact hs
  next i rest _ => exact (exec_recordSteps i ht).keeps hP (hpending s rest hs)

end Sys2Proof.Machine
end

section
/-! What the allocation of a committed course writes (02 R39 to R41): the records of its runs and slots as one list each,
put into the tables at once. -/

namespace Sys2Proof.Machine

/-! ### Many records put into a table -/

section PutAll

variable {α : Type} {t new : List (Nat × α)} {k : Nat} {v : α}

/-- A table with every record of a list written. -/
def Table.putAll (new t : List (Nat × α)) : List (Nat × α) := new.foldl (fun t e => Table.put t e.1 e.2) t

@[simp] theorem Table.putAll_nil (t : List (Nat × α)) : Table.putAll [] t = t := rfl

@[simp] theorem Table.putAll_cons (e : Nat × α) (new t : List (Nat × α)) :
    Table.putAll (e :: new) t = Table.putAll new (Table.put t e.1 e.2) := rfl

theorem Table.putAll_append (a b t : List (Nat × α)) : Table.putAll (a ++ b) t = Table.putAll b (Table.putAll a t) :=
  List.foldl_append

theorem Table.find_eq_none_iff : Table.find t k = none ↔ k ∉ t.map Prod.fst := by
  induction t with
  | nil => simp
  | cons e t ih =>
    rw [Table.find_cons, List.map_cons, List.mem_cons]
    split
    next h => simp [h]
    next h => simp [ih, Ne.symm h]

/-- A record of an identifier not in use only adds itself. -/
theorem Table.put_perm (hfree : Table.find t k = none) : (Table.put t k v).Perm ((k, v) :: t) := by
  induction t with
  | nil => exact .refl _
  | cons e t ih =>
    obtain ⟨j, w⟩ := e
    rw [Table.find_cons] at hfree
    split at hfree
    · cases hfree
    next hne =>
      unfold Table.put
      split
      · exact .refl _
      · rw [if_neg (Ne.symm hne)]
        exact ((ih hfree).cons _).trans (.swap _ _ _)

theorem Table.canonical_putAll {lo hi : Nat} (hnew : ∀ e ∈ new, lo ≤ e.1 ∧ e.1 < hi) (ht : Table.canonical lo hi t) :
    Table.canonical lo hi (Table.putAll new t) := by
  induction new generalizing t with
  | nil => exact ht
  | cons e new ih =>
    obtain ⟨hlo, hhi⟩ := hnew e List.mem_cons_self
    exact ih (fun d hd => hnew d (List.mem_cons_of_mem _ hd)) (Table.canonical_put ht hlo hhi)

/-- Records of distinct identifiers not in use only add themselves. -/
theorem Table.putAll_perm (hnodup : (new.map Prod.fst).Nodup) (hfree : ∀ e ∈ new, Table.find t e.1 = none) :
    (Table.putAll new t).Perm (new ++ t) := by
  induction new generalizing t with
  | nil => exact .refl _
  | cons e new ih =>
    obtain ⟨hnot, hnodup⟩ := List.nodup_cons.mp hnodup
    refine (ih hnodup fun d hd => ?_).trans ?_
    · have hne : d.1 ≠ e.1 := fun heq => hnot (heq ▸ List.mem_map_of_mem hd)
      rw [Table.find_put_other _ _ hne]
      exact hfree d (List.mem_cons_of_mem _ hd)
    · exact ((Table.put_perm (hfree e List.mem_cons_self)).append_left new).trans List.perm_middle

theorem Table.find_putAll_other (hk : k ∉ new.map Prod.fst) : Table.find (Table.putAll new t) k = Table.find t k := by
  induction new generalizing t with
  | nil => rfl
  | cons e new ih =>
    rw [List.map_cons, List.mem_cons, not_or] at hk
    rw [Table.putAll_cons, ih hk.2, Table.find_put_other _ _ hk.1]

theorem Table.find_putAll_same (hnodup : (new.map Prod.fst).Nodup) (hmem : (k, v) ∈ new) :
    Table.find (Table.putAll new t) k = some v := by
  induction new generalizing t with
  | nil => simp at hmem
  | cons e new ih =>
    obtain ⟨hnot, hnodup⟩ := List.nodup_cons.mp hnodup
    rcases List.mem_cons.mp hmem with rfl | hmem
    · rw [Table.putAll_cons, Table.find_putAll_other hnot, Table.find_put_same]
    · exact ih hnodup hmem

/-- Every identifier of a table is in use or not: those not in use fill the rest of the range. -/
theorem Table.length_unused {lo count : Nat} (ht : Table.canonical lo (lo + count) t) :
    (Table.unused t lo count).length + t.length = count := by
  have hkeys : (t.map Prod.fst).Perm ((List.range' lo count).filter fun k => !(Table.find t k).isNone) := by
    refine (List.perm_ext_iff_of_nodup ?_ (List.Nodup.filter _ List.nodup_range')).mpr fun k => ?_
    · rw [List.Nodup, List.pairwise_map]
      exact ht.1.imp Nat.ne_of_lt
    · rw [List.mem_filter, List.mem_range'_1, Bool.not_eq_true', ← Bool.not_eq_true, Option.isNone_iff_eq_none,
        Table.find_eq_none_iff, not_not, iff_and_self]
      intro hk
      obtain ⟨e, he, rfl⟩ := List.mem_map.mp hk
      exact ht.2 e he
  have hlength := hkeys.length_eq
  have hsplit := List.length_eq_length_filter_add (l := List.range' lo count) fun k => (Table.find t k).isNone
  rw [List.length_map] at hlength
  rw [List.length_range'] at hsplit
  rw [Table.unused]
  omega

end PutAll

/-! ### The new records -/

/-- R39: the slot ids that each run of a course takes, in run order. -/
def shares : List RunPlan → List Nat → List (List Nat)
  | [], _ => []
  | p :: ps, ids => ids.take p.slots.length :: shares ps (ids.drop p.slots.length)

/-- R39: the run ids that a course takes. -/
def State.freeRuns (s : State) (plans : List RunPlan) : List Nat :=
  (Table.unused s.runs 0 runCapacity).take plans.length

/-- R39: the slot ids that a course takes. -/
def State.freeSlots (s : State) (plans : List RunPlan) : List Nat :=
  (Table.unused s.slots 0 slotCapacity).take (totalSlots plans)

/-- R40: the records of the new runs. -/
def newRuns (entry : Nat) (plans : List RunPlan) (runs ids : List Nat) : List (Nat × Run) :=
  List.zipWith (fun run x => (run, x.1.record entry x.2)) runs (plans.zip (shares plans ids))

/-- R41: the records of the new slots. -/
def newSlots (entry kind : Nat) (plans : List RunPlan) (runs ids : List Nat) : List (Nat × Slot) :=
  (List.zipWith (fun run x => x.2.zip (x.1.slots.map fun p => p.record entry run kind)) runs
    (plans.zip (shares plans ids))).flatten

theorem putSlots_eq (entry run kind : Nat) (ps : List SlotPlan) (ids : List Nat) (t : List (Nat × Slot)) :
    putSlots entry run kind ps ids t = Table.putAll (ids.zip (ps.map fun p => p.record entry run kind)) t := by
  induction ps generalizing ids t with
  | nil => cases ids <;> rfl
  | cons p ps ih =>
    cases ids with
    | nil => rfl
    | cons id ids => exact ih ids _

theorem allocateRuns_tables (entry kind : Nat) (plans : List RunPlan) (runs ids : List Nat) (s : State) :
    (allocateRuns entry kind plans runs ids s).runs = Table.putAll (newRuns entry plans runs ids) s.runs ∧
      (allocateRuns entry kind plans runs ids s).slots = Table.putAll (newSlots entry kind plans runs ids) s.slots := by
  induction plans generalizing runs ids s with
  | nil => cases runs <;> exact ⟨rfl, rfl⟩
  | cons p ps ih =>
    cases runs with
    | nil => exact ⟨rfl, rfl⟩
    | cons run runs =>
      obtain ⟨hruns, hslots⟩ := ih runs (ids.drop p.slots.length)
        { s with
          runs := Table.put s.runs run (p.record entry (ids.take p.slots.length))
          slots := putSlots entry run kind p.slots (ids.take p.slots.length) s.slots }
      refine ⟨hruns, hslots.trans ?_⟩
      dsimp only
      rw [putSlots_eq, ← Table.putAll_append]
      rfl

section Allocate

variable (s : State) (entry : Nat) (c : Course) (plans : List RunPlan)

theorem allocate_runs :
    (allocate s entry c plans).2.runs =
      Table.putAll (newRuns entry plans (s.freeRuns plans) (s.freeSlots plans)) s.runs :=
  (allocateRuns_tables _ _ _ _ _ _).1

theorem allocate_slots :
    (allocate s entry c plans).2.slots =
      Table.putAll (newSlots entry c.kind plans (s.freeRuns plans) (s.freeSlots plans)) s.slots :=
  (allocateRuns_tables _ _ _ _ _ _).2

theorem allocate_courses :
    (allocate s entry c plans).2.courses =
      Table.update s.courses entry fun c => { c with state := .active, runIds := some (s.freeRuns plans) } := by
  change Table.update (allocateRuns entry c.kind plans (s.freeRuns plans) (s.freeSlots plans) s).courses entry
    (fun c => { c with state := .active, runIds := some (s.freeRuns plans) }) = _
  rw [allocateRuns_frame]

theorem allocate_walls :
    (allocate s entry c plans).2.walls =
      Table.update s.walls c.wall fun r => { r with nextCourse := r.nextCourse + 1 } := by
  change Table.update (allocateRuns entry c.kind plans (s.freeRuns plans) (s.freeSlots plans) s).walls c.wall
    (fun r => { r with nextCourse := r.nextCourse + 1 }) = _
  rw [allocateRuns_frame]

theorem allocate_frame :
    (allocate s entry c plans).2 =
      { s with
        walls := (allocate s entry c plans).2.walls, courses := (allocate s entry c plans).2.courses
        runs := (allocate s entry c plans).2.runs, slots := (allocate s entry c plans).2.slots, load := none } := by
  simp only [allocate, State.updateWall, State.updateCourse]
  rw [allocateRuns_frame]

theorem allocate_wall (w : Nat) :
    (allocate s entry c plans).2.wall w =
      if w = c.wall then (s.wall w).map fun r => { r with nextCourse := r.nextCourse + 1 } else s.wall w := by
  rw [State.wall, allocate_walls]
  exact Table.find_update _ _ _ _

theorem allocate_course (e : Nat) :
    (allocate s entry c plans).2.course e =
      if e = entry then (s.course e).map fun c => { c with state := .active, runIds := some (s.freeRuns plans) }
      else s.course e := by
  rw [State.course, allocate_courses]
  exact Table.find_update _ _ _ _

end Allocate

/-! ### Which records are new -/

section New

variable {entry kind : Nat} {plans : List RunPlan} {runs ids : List Nat}

@[simp] theorem shares_length (plans : List RunPlan) (ids : List Nat) : (shares plans ids).length = plans.length := by
  induction plans generalizing ids with
  | nil => rfl
  | cons p ps ih => simp [shares, ih]

theorem totalSlots_cons (p : RunPlan) (ps : List RunPlan) : totalSlots (p :: ps) = p.slots.length + totalSlots ps := rfl

theorem shares_flatten (hids : ids.length = totalSlots plans) : (shares plans ids).flatten = ids := by
  induction plans generalizing ids with
  | nil => exact (List.length_eq_zero_iff.mp hids).symm
  | cons p ps ih =>
    rw [totalSlots_cons] at hids
    rw [shares, List.flatten_cons, ih (by rw [List.length_drop]; omega), List.take_append_drop]

theorem mem_of_mem_share {mine : List Nat} {id : Nat} (hmine : mine ∈ shares plans ids) (hid : id ∈ mine) : id ∈ ids := by
  induction plans generalizing ids with
  | nil => simp [shares] at hmine
  | cons p ps ih =>
    rcases List.mem_cons.mp hmine with rfl | hmine
    · exact List.mem_of_mem_take hid
    · exact List.mem_of_mem_drop (ih hmine)

theorem length_share (hids : ids.length = totalSlots plans) {i : Nat} {p : RunPlan} {mine : List Nat}
    (hp : plans[i]? = some p) (hmine : (shares plans ids)[i]? = some mine) : mine.length = p.slots.length := by
  induction plans generalizing ids i with
  | nil => simp at hp
  | cons q ps ih =>
    rw [totalSlots_cons] at hids
    cases i with
    | zero =>
      cases hp
      cases hmine
      rw [List.length_take]
      omega
    | succ i => exact ih (by rw [List.length_drop]; omega) hp hmine

theorem mem_newRuns {e : Nat × Run} :
    e ∈ newRuns entry plans runs ids ↔ ∃ (i : Nat) (p : RunPlan) (run : Nat) (mine : List Nat), plans[i]? = some p ∧ runs[i]? = some run ∧
      (shares plans ids)[i]? = some mine ∧ e = (run, p.record entry mine) := by
  simp only [newRuns, List.mem_iff_getElem?, List.getElem?_zipWith_eq_some, List.getElem?_zip_eq_some]
  constructor
  · rintro ⟨i, run, ⟨p, mine⟩, hrun, ⟨hp, hmine⟩, rfl⟩
    exact ⟨i, p, run, mine, hp, hrun, hmine, rfl⟩
  · rintro ⟨i, p, run, mine, hp, hrun, hmine, rfl⟩
    exact ⟨i, run, (p, mine), hrun, ⟨hp, hmine⟩, rfl⟩

theorem mem_newSlots {e : Nat × Slot} :
    e ∈ newSlots entry kind plans runs ids ↔ ∃ (i : Nat) (p : RunPlan) (run : Nat) (mine : List Nat) (j : Nat)
      (q : SlotPlan) (id : Nat), plans[i]? = some p ∧ runs[i]? = some run ∧
      (shares plans ids)[i]? = some mine ∧ p.slots[j]? = some q ∧ mine[j]? = some id ∧
      e = (id, q.record entry run kind) := by
  rw [newSlots, List.mem_flatten]
  constructor
  · rintro ⟨l, hl, he⟩
    obtain ⟨i, hl⟩ := List.mem_iff_getElem?.mp hl
    obtain ⟨run, ⟨p, mine⟩, hrun, hx, rfl⟩ := List.getElem?_zipWith_eq_some.mp hl
    obtain ⟨hp, hmine⟩ := List.getElem?_zip_eq_some.mp hx
    obtain ⟨j, he⟩ := List.mem_iff_getElem?.mp he
    obtain ⟨hid, hq⟩ := List.getElem?_zip_eq_some.mp he
    rw [List.getElem?_map, Option.map_eq_some_iff] at hq
    obtain ⟨q, hq, hrecord⟩ := hq
    exact ⟨i, p, run, mine, j, q, e.1, hp, hrun, hmine, hq, hid, Prod.ext rfl hrecord.symm⟩
  · rintro ⟨i, p, run, mine, j, q, id, hp, hrun, hmine, hq, hid, rfl⟩
    refine ⟨_, List.mem_iff_getElem?.mpr ⟨i, List.getElem?_zipWith_eq_some.mpr
      ⟨run, (p, mine), hrun, List.getElem?_zip_eq_some.mpr ⟨hp, hmine⟩, rfl⟩⟩, List.mem_iff_getElem?.mpr ⟨j, ?_⟩⟩
    exact List.getElem?_zip_eq_some.mpr ⟨hid, by rw [List.getElem?_map, hq]; rfl⟩

theorem newRuns_keys (hruns : runs.length = plans.length) : (newRuns entry plans runs ids).map Prod.fst = runs := by
  rw [newRuns, List.map_zipWith]
  refine List.ext_getElem (by simp [hruns]) fun i _ _ => ?_
  simp

theorem newSlots_keys (hruns : runs.length = plans.length) (hids : ids.length = totalSlots plans) :
    (newSlots entry kind plans runs ids).map Prod.fst = ids := by
  induction plans generalizing runs ids with
  | nil =>
    rw [List.length_eq_zero_iff.mp hruns]
    exact (List.length_eq_zero_iff.mp hids).symm
  | cons p ps ih =>
    cases runs with
    | nil => simp at hruns
    | cons run runs =>
      rw [totalSlots_cons] at hids
      have hrest := ih (runs := runs) (ids := ids.drop p.slots.length) (by simpa using hruns)
        (by rw [List.length_drop]; omega)
      have hmine : ((ids.take p.slots.length).zip (p.slots.map fun q => q.record entry run kind)).map Prod.fst =
          ids.take p.slots.length := List.map_fst_zip (by simp)
      change (((ids.take p.slots.length).zip (p.slots.map fun q => q.record entry run kind)) ++
        newSlots entry kind ps runs (ids.drop p.slots.length)).map Prod.fst = ids
      rw [List.map_append, hrest, hmine, List.take_append_drop]

end New

end Sys2Proof.Machine
end

section
/-! Every change of the records keeps the tables in their one form (00 sections 1.6.5 and 1.8). -/

namespace Sys2Proof.Machine

theorem Table.canonical_nil {α : Type} (lo hi : Nat) : Table.canonical lo hi ([] : List (Nat × α)) :=
  ⟨.nil, fun _ h => absurd h (by simp)⟩

theorem State.tablesCanonical_of_records {s t : State} (h : t.records = s.records) (hs : s.tablesCanonical) :
    t.tablesCanonical := by
  rw [State.tablesCanonical, State.walls_of_records h, State.features_of_records h, State.kinds_of_records h,
    State.profiles_of_records h, State.courses_of_records h, State.runs_of_records h, State.slots_of_records h]
  exact hs

/-! ### Changes of one record -/

section Update

variable {s : State} (hs : s.tablesCanonical)
include hs

theorem State.updateWall_canonical (w : Nat) (f : Wall → Wall) : (s.updateWall w f).tablesCanonical := by
  obtain ⟨hwalls, hfeatures, hkinds, hprofiles, hcourses, hruns, hslots⟩ := hs
  refine ⟨?_, hfeatures, hkinds, hprofiles, hcourses, hruns, hslots⟩
  exact Table.canonical_update w f hwalls

theorem State.updateFeature_canonical (k : Nat) (f : Feature → Feature) : (s.updateFeature k f).tablesCanonical := by
  obtain ⟨hwalls, hfeatures, hkinds, hprofiles, hcourses, hruns, hslots⟩ := hs
  refine ⟨hwalls, ?_, hkinds, hprofiles, hcourses, hruns, hslots⟩
  exact Table.canonical_update k f hfeatures

theorem State.updateCourse_canonical (e : Nat) (f : Course → Course) : (s.updateCourse e f).tablesCanonical := by
  obtain ⟨hwalls, hfeatures, hkinds, hprofiles, hcourses, hruns, hslots⟩ := hs
  refine ⟨hwalls, hfeatures, hkinds, hprofiles, ?_, hruns, hslots⟩
  exact Table.canonical_update e f hcourses

theorem State.updateRun_canonical (r : Nat) (f : Run → Run) : (s.updateRun r f).tablesCanonical := by
  obtain ⟨hwalls, hfeatures, hkinds, hprofiles, hcourses, hruns, hslots⟩ := hs
  refine ⟨hwalls, hfeatures, hkinds, hprofiles, hcourses, ?_, hslots⟩
  exact Table.canonical_update r f hruns

theorem State.updateSlot_canonical (id : Nat) (f : Slot → Slot) : (s.updateSlot id f).tablesCanonical := by
  obtain ⟨hwalls, hfeatures, hkinds, hprofiles, hcourses, hruns, hslots⟩ := hs
  refine ⟨hwalls, hfeatures, hkinds, hprofiles, hcourses, hruns, ?_⟩
  exact Table.canonical_update id f hslots

end Update

/-! ### Allocation (02 R39) -/

theorem allocate_canonical {s : State} (entry : Nat) (c : Course) (plans : List RunPlan) (hs : s.tablesCanonical) :
    (allocate s entry c plans).2.tablesCanonical := by
  obtain ⟨hwalls, hfeatures, hkinds, hprofiles, hcourses, hruns, hslots⟩ := hs
  rw [allocate_frame]
  refine ⟨?_, hfeatures, hkinds, hprofiles, ?_, ?_, ?_⟩
  · dsimp only
    rw [allocate_walls]
    exact Table.canonical_update _ _ hwalls
  · dsimp only
    rw [allocate_courses]
    exact Table.canonical_update _ _ hcourses
  · dsimp only
    rw [allocate_runs]
    refine Table.canonical_putAll (fun e he => ?_) hruns
    obtain ⟨i, p, run, mine, hp, hrun, hmine, rfl⟩ := mem_newRuns.mp he
    have hfree := Table.mem_unused (List.mem_of_mem_take (List.mem_of_getElem? hrun))
    exact ⟨hfree.1, by simpa using hfree.2.1⟩
  · dsimp only
    rw [allocate_slots]
    refine Table.canonical_putAll (fun e he => ?_) hslots
    obtain ⟨i, p, run, mine, j, q, id, hp, hrun, hmine, hq, hid, rfl⟩ := mem_newSlots.mp he
    have hfree := Table.mem_unused (List.mem_of_mem_take (mem_of_mem_share (List.mem_of_getElem? hmine)
      (List.mem_of_getElem? hid)))
    exact ⟨hfree.1, by simpa using hfree.2.1⟩

/-! ### The other changes -/

theorem freeFeatures_canonical {lo hi : Nat} {features : List (Nat × Feature)} (chain : List (Nat × Feature))
    (h : Table.canonical lo hi features) : Table.canonical lo hi (freeFeatures features chain) := by
  induction chain generalizing features with
  | nil => exact h
  | cons e chain ih => exact ih (Table.canonical_free e.1 h)

theorem unfeed_canonical {lo hi : Nat} {slots : List (Nat × Slot)} (queue : List Entry)
    (h : Table.canonical lo hi slots) : Table.canonical lo hi (unfeed slots queue) := by
  induction queue generalizing slots with
  | nil => exact h
  | cons e queue ih => exact ih (Table.canonical_update e.slot _ h)

theorem retire_canonical {s : State} (entry : Nat) (c : Course) (hs : s.tablesCanonical) :
    (retire s entry c).tablesCanonical := by
  obtain ⟨hwalls, hfeatures, hkinds, hprofiles, hcourses, hruns, hslots⟩ := hs
  refine ⟨?_, hfeatures, hkinds, hprofiles, Table.canonical_free _ hcourses, Table.canonical_filter _ hruns, ?_⟩
  · exact Table.canonical_update c.wall (fun r => { r with settledTop := s.topOf c, baseCourse := c.number + 1 }) hwalls
  unfold retire
  dsimp only
  split
  · exact Table.canonical_filter _ hslots
  · refine Table.canonical_map _ (fun e => ?_) (Table.canonical_filter _ hslots)
    split <;> rfl

theorem relink_canonical {s : State} (w : Nat) (before : Option Nat) (index : Nat) (hs : s.tablesCanonical) :
    (s.relink w before index).tablesCanonical := by
  cases before with
  | none => exact State.updateWall_canonical hs _ _
  | some b => exact State.updateFeature_canonical hs _ _

theorem RecordChange.tablesCanonical {s t : State} (h : RecordChange s t) (hs : s.tablesCanonical) :
    t.tablesCanonical := by
  obtain ⟨hwalls, hfeatures, hkinds, hprofiles, hcourses, hruns, hslots⟩ := id hs
  cases h with
  | same h => exact State.tablesCanonical_of_records h hs
  | reset h =>
    refine State.tablesCanonical_of_records h ⟨?_, ?_, ?_, ?_, ?_, ?_, ?_⟩ <;> exact Table.canonical_nil _ _
  | wallOpened length hw hclosed =>
    exact ⟨Table.canonical_put hwalls (Nat.zero_le _) (by omega), hfeatures, hkinds, hprofiles, hcourses, hruns, hslots⟩
  | wallClosed hr hpass =>
    exact ⟨Table.canonical_free _ hwalls, freeFeatures_canonical _ hfeatures, hkinds, hprofiles, hcourses, hruns, hslots⟩
  | featureLinked hr hwall hbare hx hz hk =>
    obtain ⟨hwalls', hfeatures', hrest'⟩ := relink_canonical _ _ _ hs
    exact ⟨hwalls', Table.canonical_put hfeatures' hk.1 (by omega), hrest'⟩
  | featureDropped hf =>
    obtain ⟨hwalls', hfeatures', hrest'⟩ := relink_canonical _ _ _ hs
    exact ⟨hwalls', Table.canonical_free _ hfeatures', hrest'⟩
  | lintelPlaced => exact State.updateFeature_canonical hs _ _
  | kindDefined v hk =>
    exact ⟨hwalls, hfeatures, Table.canonical_put hkinds (Nat.zero_le _) (by omega), hprofiles, hcourses, hruns, hslots⟩
  | profileDefined v hk =>
    exact ⟨hwalls, hfeatures, hkinds, Table.canonical_put hprofiles (Nat.zero_le _) (by omega), hcourses, hruns, hslots⟩
  | loadOpened hr hload hlast hentry =>
    exact ⟨hwalls, hfeatures, hkinds, hprofiles, Table.canonical_put hcourses (Nat.zero_le _) hentry, hruns, hslots⟩
  | runReceived | delivered => exact hs
  | committed => exact allocate_canonical _ _ _ hs
  | loadDropped =>
    unfold State.dropLoad
    split
    · exact hs
    · exact ⟨hwalls, hfeatures, hkinds, hprofiles, Table.canonical_free _ hcourses, hruns, hslots⟩
  | retired => exact retire_canonical _ _ hs
  | slotMoved | sightLost | issued => exact State.updateSlot_canonical hs _ _
  | fed id e => exact State.updateSlot_canonical hs id fun sl => sl.fedWith s.generation e.gauged
  | placed id now => exact State.updateSlot_canonical hs id fun sl => sl.placedAt now
  | runMoved => exact State.updateRun_canonical hs _ _
  | completed => exact State.updateCourse_canonical hs _ _
  | flushed => exact ⟨hwalls, hfeatures, hkinds, hprofiles, hcourses, hruns, unfeed_canonical _ hslots⟩

end Sys2Proof.Machine
end

section
/-! The opening chains as linked segments (01 R2, R7): a chain is a list whose entries name each other, so what a change
does to the chains is said on lists, and `State.chain` is met only in `chainsLinked_iff`. -/

namespace Sys2Proof.Machine

/-! ### Segments of a linked list of features -/

/-- From the index `start` the next fields lead through the features of a list to the index `stop`. -/
def Segment (features : List (Nat × Feature)) (start stop : Nat) : List (Nat × Feature) → Prop
  | [] => start = stop
  | e :: rest => e.1 = start ∧ Table.find features start = some e.2 ∧ Segment features e.2.next stop rest

@[simp] theorem segment_nil {features : List (Nat × Feature)} {start stop : Nat} :
    Segment features start stop [] ↔ start = stop := Iff.rfl

theorem segment_cons {features : List (Nat × Feature)} {start stop : Nat} {e : Nat × Feature}
    {rest : List (Nat × Feature)} :
    Segment features start stop (e :: rest) ↔
      e.1 = start ∧ Table.find features start = some e.2 ∧ Segment features e.2.next stop rest := Iff.rfl

section Segments

variable {features features' : List (Nat × Feature)} {l l₁ l₂ : List (Nat × Feature)} {start stop : Nat}

theorem segment_append :
    Segment features start stop (l₁ ++ l₂) ↔ ∃ mid, Segment features start mid l₁ ∧ Segment features mid stop l₂ := by
  induction l₁ generalizing start with
  | nil => simp
  | cons e l₁ ih => simp only [List.cons_append, segment_cons, ih]; tauto

theorem Segment.find (h : Segment features start stop l) {e : Nat × Feature} (he : e ∈ l) :
    Table.find features e.1 = some e.2 := by
  induction l generalizing start with
  | nil => simp at he
  | cons x l ih =>
    obtain ⟨rfl, hfind, hrest⟩ := h
    rcases List.mem_cons.mp he with rfl | he
    · exact hfind
    · exact ih hrest he

/-- A segment stands in every table that agrees on its features. -/
theorem Segment.congr (h : Segment features start stop l)
    (hfind : ∀ e ∈ l, Table.find features' e.1 = Table.find features e.1) : Segment features' start stop l := by
  induction l generalizing start with
  | nil => exact h
  | cons x l ih =>
    obtain ⟨rfl, hx, hrest⟩ := h
    exact ⟨rfl, (hfind x List.mem_cons_self).trans hx, ih hrest fun e he => hfind e (List.mem_cons_of_mem _ he)⟩

theorem Segment.start_eq (h : Segment features start stop l) : start = (l.head?.map Prod.fst).getD stop := by
  cases l with
  | nil => exact h
  | cons e l => exact h.1.symm

/-- Two features of the same place in a chain's order are one feature, so no index stands twice in a chain. -/
theorem Segment.nodup (h : Segment features start stop l)
    (horder : l.Pairwise fun a b => a.2.xa < b.2.xa ∨ (a.2.xa = b.2.xa ∧ a.2.zSill < b.2.zSill)) :
    (l.map Prod.fst).Nodup := by
  rw [List.Nodup, List.pairwise_map]
  refine horder.imp_of_mem fun {a b} ha hb hab heq => ?_
  have hsame : a.2 = b.2 := Option.some.inj ((h.find ha).symm.trans (heq ▸ h.find hb))
  rw [hsame] at hab
  omega

theorem Segment.length_le (h : Segment features start stop l) (hcanonical : Table.canonical 1 65 features)
    (hnodup : (l.map Prod.fst).Nodup) : l.length ≤ featureCapacity := by
  have hsub : (l.map Prod.fst).toFinset ⊆ Finset.Icc 1 64 := by
    intro k hk
    obtain ⟨e, he, rfl⟩ := List.mem_map.mp (List.mem_toFinset.mp hk)
    have := hcanonical.2 _ (Table.mem_of_find (h.find he))
    exact Finset.mem_Icc.mpr ⟨this.1, by omega⟩
  have hcard := Finset.card_le_card hsub
  rwa [List.toFinset_card_of_nodup hnodup, List.length_map, Nat.card_Icc] at hcard

end Segments

/-! ### Chains are segments -/

theorem State.feature_zero {s : State} (h : Table.canonical 1 65 s.features) : s.feature 0 = none := by
  cases hf : s.feature 0 with
  | none => rfl
  | some f => exact absurd (h.2 _ (Table.mem_of_find hf)).1 (by simp)

/-- A segment that ends with 0 is what the chain's walk gives, with enough fuel. -/
theorem chainFrom_of_segment {s : State} (hzero : s.feature 0 = none) {l : List (Nat × Feature)} {start fuel : Nat}
    (h : Segment s.features start 0 l) (hfuel : l.length ≤ fuel) : s.chainFrom fuel start = l := by
  induction l generalizing start fuel with
  | nil =>
    rw [segment_nil] at h
    cases fuel with
    | zero => rfl
    | succ n => simp only [State.chainFrom, h, hzero]
  | cons e l ih =>
    obtain ⟨rfl, hfind, hrest⟩ := h
    cases fuel with
    | zero => simp at hfuel
    | succ n =>
      simp only [State.chainFrom, State.feature, hfind]
      rw [ih hrest (by simpa using hfuel)]

/-- A walk whose last next field is 0 is a segment. -/
theorem segment_of_chainFrom {s : State} {start fuel : Nat}
    (hends : ((s.chainFrom fuel start).getLast?.map fun e => e.2.next).getD start = 0) :
    Segment s.features start 0 (s.chainFrom fuel start) := by
  induction fuel generalizing start with
  | zero => exact hends
  | succ n ih =>
    cases hf : s.feature start with
    | none =>
      simp only [State.chainFrom, hf] at hends ⊢
      exact hends
    | some f =>
      simp only [State.chainFrom, hf] at hends ⊢
      refine ⟨rfl, hf, ih ?_⟩
      rw [List.getLast?_cons] at hends
      cases hlast : (s.chainFrom n f.next).getLast? <;> simpa [hlast] using hends

/-- The chains of the walls, given as lists: what `State.ChainsLinked` says of them. -/
structure State.ChainsAre (s : State) (chains : Nat → List (Nat × Feature)) : Prop where
  segment : ∀ w r, s.wall w = some r → Segment s.features r.chainHead 0 (chains w)
  ofWall : ∀ w r, s.wall w = some r → ∀ e ∈ chains w, e.2.wall = w
  inOrder : ∀ w r, s.wall w = some r →
    (chains w).Pairwise fun a b => a.2.xa < b.2.xa ∨ (a.2.xa = b.2.xa ∧ a.2.zSill < b.2.zSill)
  apart : ∀ w r, s.wall w = some r → (chains w).Pairwise fun a b => ¬ a.2.overlaps b.2
  inChain : ∀ e ∈ s.features, ∃ r, s.wall e.2.wall = some r ∧ e ∈ chains e.2.wall ∧ e.2.xb ≤ r.length
  spans : ∀ e ∈ s.features, 0 ≤ e.2.xa ∧ e.2.xa < e.2.xb ∧ 0 ≤ e.2.zSill ∧ e.2.zSill < e.2.zHead ∧ e.2.zHead ≤ 8388607
  lintels : ∀ e ∈ s.features, ∀ l ∈ e.2.lintel,
    e.2.zHead ≤ l.topZ ∧ l.topZ ≤ 8388607 ∧ 0 ≤ l.bearing ∧ l.bearing ≤ 3000

theorem State.ChainsAre.chain_eq {s : State} {chains : Nat → List (Nat × Feature)} (h : s.ChainsAre chains)
    (hcanonical : Table.canonical 1 65 s.features) {w : Nat} {r : Wall} (hr : s.wall w = some r) :
    s.chain r = chains w :=
  have hsegment := h.segment w r hr
  chainFrom_of_segment (State.feature_zero hcanonical) hsegment
    (hsegment.length_le hcanonical (hsegment.nodup (h.inOrder w r hr)))

theorem State.wall_iff_mem {s : State} (hwalls : Table.canonical 0 4 s.walls) {w : Nat} {r : Wall} :
    s.wall w = some r ↔ (w, r) ∈ s.walls := ⟨Table.mem_of_find, Table.find_of_mem hwalls.1⟩

theorem chainsLinked_iff {s : State} (hwalls : Table.canonical 0 4 s.walls)
    (hfeatures : Table.canonical 1 65 s.features) : s.ChainsLinked ↔ ∃ chains, s.ChainsAre chains := by
  constructor
  · intro h
    refine ⟨fun w => ((s.wall w).map s.chain).getD [], ?_⟩
    have hchain {w : Nat} {r : Wall} (hr : s.wall w = some r) : ((s.wall w).map s.chain).getD [] = s.chain r := by
      rw [hr]
      rfl
    constructor
    case segment => intro w r hr; rw [hchain hr]; exact segment_of_chainFrom (h.ends _ (Table.mem_of_find hr))
    case ofWall => intro w r hr; rw [hchain hr]; exact h.ofWall _ (Table.mem_of_find hr)
    case inOrder => intro w r hr; rw [hchain hr]; exact h.inOrder _ (Table.mem_of_find hr)
    case apart =>
      intro w r hr
      rw [hchain hr]
      exact (h.apart _ (Table.mem_of_find hr)).imp fun {a b} hab => mt (Feature.overlaps_iff a.2 b.2).mp hab
    case inChain =>
      intro e he
      obtain ⟨r, hr, hmem⟩ := Option.any_eq_true _ _ |>.mp (h.inChain e he)
      refine ⟨r, hr, ?_, (of_decide_eq_true hmem).2⟩
      rw [hchain hr]
      exact (of_decide_eq_true hmem).1
    case spans => exact h.spans
    case lintels => exact h.lintels
  · rintro ⟨chains, h⟩
    have hchain {w : Nat × Wall} (hw : w ∈ s.walls) : s.chain w.2 = chains w.1 :=
      h.chain_eq hfeatures ((State.wall_iff_mem hwalls).mpr hw)
    have hwall {w : Nat × Wall} (hw : w ∈ s.walls) : s.wall w.1 = some w.2 := (State.wall_iff_mem hwalls).mpr hw
    constructor
    case inChain =>
      intro e he
      obtain ⟨r, hr, hmem, hxb⟩ := h.inChain e he
      rw [hr, Option.any_some, decide_eq_true_eq, h.chain_eq hfeatures hr]
      exact ⟨hmem, hxb⟩
    case ofWall => intro w hw; rw [hchain hw]; exact h.ofWall _ _ (hwall hw)
    case ends =>
      intro w hw
      have hsegment := h.segment _ _ (hwall hw)
      rw [hchain hw]
      generalize chains w.1 = l at hsegment
      generalize w.2.chainHead = start at hsegment
      induction l generalizing start with
      | nil => exact hsegment
      | cons e l ih =>
        rw [List.getLast?_cons]
        have := ih _ hsegment.2.2
        cases hlast : l.getLast? <;> simpa [hlast] using this
    case inOrder => intro w hw; rw [hchain hw]; exact h.inOrder _ _ (hwall hw)
    case apart =>
      intro w hw
      rw [hchain hw]
      exact (h.apart _ _ (hwall hw)).imp fun {a b} hab => mt (Feature.overlaps_iff a.2 b.2).mpr hab
    case spans => exact h.spans
    case lintels => exact h.lintels

end Sys2Proof.Machine
end

section
/-! Every change of the records keeps the opening chains (01 R2, R7, R9 to R12): a change touches the chain of one wall,
and `State.ChainsAre.rechain` says what has to hold of the chain that it leaves. -/

namespace Sys2Proof.Machine

/-! ### One chain in form -/

/-- R7, R9, R10: the features of one wall's chain. -/
structure ChainInForm (w : Nat) (r : Wall) (l : List (Nat × Feature)) : Prop where
  ofWall : ∀ e ∈ l, e.2.wall = w
  within : ∀ e ∈ l, e.2.xb ≤ r.length
  spans : ∀ e ∈ l, 0 ≤ e.2.xa ∧ e.2.xa < e.2.xb ∧ 0 ≤ e.2.zSill ∧ e.2.zSill < e.2.zHead ∧ e.2.zHead ≤ 8388607
  lintels : ∀ e ∈ l, ∀ m ∈ e.2.lintel, e.2.zHead ≤ m.topZ ∧ m.topZ ≤ 8388607 ∧ 0 ≤ m.bearing ∧ m.bearing ≤ 3000
  inOrder : l.Pairwise fun a b => a.2.xa < b.2.xa ∨ (a.2.xa = b.2.xa ∧ a.2.zSill < b.2.zSill)
  apart : l.Pairwise fun a b => ¬ a.2.overlaps b.2

/-- Two records of one opening: the wall and the spans are the same. -/
structure Feature.SameOpening (f g : Feature) : Prop where
  wall : g.wall = f.wall
  xa : g.xa = f.xa
  xb : g.xb = f.xb
  zSill : g.zSill = f.zSill
  zHead : g.zHead = f.zHead

theorem Feature.SameOpening.refl (f : Feature) : f.SameOpening f := ⟨rfl, rfl, rfl, rfl, rfl⟩

theorem ChainInForm.sublist {w : Nat} {r : Wall} {l l' : List (Nat × Feature)} (h : ChainInForm w r l)
    (hsub : l'.Sublist l) : ChainInForm w r l' where
  ofWall e he := h.ofWall e (hsub.subset he)
  within e he := h.within e (hsub.subset he)
  spans e he := h.spans e (hsub.subset he)
  lintels e he := h.lintels e (hsub.subset he)
  inOrder := h.inOrder.sublist hsub
  apart := h.apart.sublist hsub

theorem ChainInForm.of_length {w : Nat} {r r' : Wall} {l : List (Nat × Feature)} (h : ChainInForm w r l)
    (hlength : r'.length = r.length) : ChainInForm w r' l :=
  { h with within := fun e he => hlength ▸ h.within e he }

/-- A chain whose openings stay, whatever their links and lintels become, stays in form while the lintels are in range. -/
theorem ChainInForm.map {w : Nat} {r : Wall} {l : List (Nat × Feature)} {g : Nat × Feature → Nat × Feature}
    (h : ChainInForm w r l) (hg : ∀ e ∈ l, e.2.SameOpening (g e).2)
    (hlintel : ∀ e ∈ l, ∀ m ∈ (g e).2.lintel,
      e.2.zHead ≤ m.topZ ∧ m.topZ ≤ 8388607 ∧ 0 ≤ m.bearing ∧ m.bearing ≤ 3000) :
    ChainInForm w r (l.map g) where
  ofWall := by
    simp only [List.mem_map, forall_exists_index, and_imp, forall_apply_eq_imp_iff₂]
    intro e he
    rw [(hg e he).wall]
    exact h.ofWall e he
  within := by
    simp only [List.mem_map, forall_exists_index, and_imp, forall_apply_eq_imp_iff₂]
    intro e he
    rw [(hg e he).xb]
    exact h.within e he
  spans := by
    simp only [List.mem_map, forall_exists_index, and_imp, forall_apply_eq_imp_iff₂]
    intro e he
    rw [(hg e he).xa, (hg e he).xb, (hg e he).zSill, (hg e he).zHead]
    exact h.spans e he
  lintels := by
    simp only [List.mem_map, forall_exists_index, and_imp, forall_apply_eq_imp_iff₂]
    intro e he
    rw [(hg e he).zHead]
    exact hlintel e he
  inOrder := by
    rw [List.pairwise_map]
    refine h.inOrder.imp_of_mem fun {a b} ha hb hab => ?_
    rw [(hg a ha).xa, (hg b hb).xa, (hg a ha).zSill, (hg b hb).zSill]
    exact hab
  apart := by
    rw [List.pairwise_map]
    refine h.apart.imp_of_mem fun {a b} ha hb hab => ?_
    rw [Feature.overlaps_iff] at hab ⊢
    rw [(hg a ha).xa, (hg b hb).xa, (hg a ha).xb, (hg b hb).xb, (hg a ha).zSill, (hg b hb).zSill, (hg a ha).zHead,
      (hg b hb).zHead]
    exact hab

namespace State.ChainsAre

variable {s t : State} {chains : Nat → List (Nat × Feature)} (h : s.ChainsAre chains)
include h

theorem mem_features {w : Nat} {r : Wall} (hr : s.wall w = some r) {e : Nat × Feature} (he : e ∈ chains w) :
    e ∈ s.features := Table.mem_of_find ((h.segment w r hr).find he)

theorem inForm {w : Nat} {r : Wall} (hr : s.wall w = some r) : ChainInForm w r (chains w) where
  ofWall := h.ofWall w r hr
  within e he := by
    obtain ⟨r', hr', _, hxb⟩ := h.inChain e (h.mem_features hr he)
    rw [h.ofWall w r hr e he, hr] at hr'
    cases hr'
    exact hxb
  spans e he := h.spans e (h.mem_features hr he)
  lintels e he := h.lintels e (h.mem_features hr he)
  inOrder := h.inOrder w r hr
  apart := h.apart w r hr

theorem nodup {w : Nat} {r : Wall} (hr : s.wall w = some r) : ((chains w).map Prod.fst).Nodup :=
  (h.segment w r hr).nodup (h.inOrder w r hr)

/-- The chain of one wall becomes another list, in form while the wall is OPEN; the features of the other walls stay. -/
theorem rechain {w : Nat} {x : Option Wall} {l : List (Nat × Feature)}
    (hwalls : ∀ v, t.wall v = if v = w then x else s.wall v)
    (hx : ∀ r, x = some r → Segment t.features r.chainHead 0 l ∧ ChainInForm w r l)
    (hothers : ∀ e ∈ s.features, e.2.wall ≠ w → Table.find t.features e.1 = Table.find s.features e.1)
    (hmem : ∀ e ∈ t.features, (e ∈ l ∧ x.isSome = true) ∨ (e ∈ s.features ∧ e.2.wall ≠ w)) :
    t.ChainsAre fun v => if v = w then l else chains v := by
  have hother {v : Nat} (hv : v ≠ w) {r' : Wall} (hr' : t.wall v = some r') : s.wall v = some r' := by
    rw [hwalls, if_neg hv] at hr'
    exact hr'
  have hsame {v : Nat} (hv : v = w) {r' : Wall} (hr' : t.wall v = some r') :
      Segment t.features r'.chainHead 0 l ∧ ChainInForm w r' l := by
    rw [hwalls, if_pos hv] at hr'
    exact hx r' hr'
  have hopen {e : Nat × Feature} (hl : e ∈ l ∧ x.isSome = true) : ∃ r, x = some r ∧ ChainInForm w r l := by
    obtain ⟨r, hr⟩ := Option.isSome_iff_exists.mp hl.2
    exact ⟨r, hr, (hx r hr).2⟩
  constructor
  case segment =>
    intro v r' hr'
    by_cases hv : v = w
    · rw [if_pos hv]
      exact (hsame hv hr').1
    · rw [if_neg hv]
      refine (h.segment v r' (hother hv hr')).congr fun e he => ?_
      refine hothers e (h.mem_features (hother hv hr') he) ?_
      rwa [h.ofWall v r' (hother hv hr') e he]
  case ofWall =>
    intro v r' hr'
    by_cases hv : v = w
    · rw [if_pos hv, hv]
      exact (hsame hv hr').2.ofWall
    · rw [if_neg hv]
      exact h.ofWall v r' (hother hv hr')
  case inOrder =>
    intro v r' hr'
    by_cases hv : v = w
    · rw [if_pos hv]
      exact (hsame hv hr').2.inOrder
    · rw [if_neg hv]
      exact h.inOrder v r' (hother hv hr')
  case apart =>
    intro v r' hr'
    by_cases hv : v = w
    · rw [if_pos hv]
      exact (hsame hv hr').2.apart
    · rw [if_neg hv]
      exact h.apart v r' (hother hv hr')
  case inChain =>
    intro e he
    rcases hmem e he with hl | ⟨hold, hne⟩
    · obtain ⟨r, hr, hform⟩ := hopen hl
      have hwall := hform.ofWall e hl.1
      exact ⟨r, by rw [hwalls, if_pos hwall, hr], by rw [if_pos hwall]; exact hl.1, hform.within e hl.1⟩
    · obtain ⟨r', hr', hin, hxb⟩ := h.inChain e hold
      exact ⟨r', by rw [hwalls, if_neg hne]; exact hr', by rwa [if_neg hne], hxb⟩
  case spans =>
    intro e he
    rcases hmem e he with hl | ⟨hold, _⟩
    · obtain ⟨r, _, hform⟩ := hopen hl
      exact hform.spans e hl.1
    · exact h.spans e hold
  case lintels =>
    intro e he
    rcases hmem e he with hl | ⟨hold, _⟩
    · obtain ⟨r, _, hform⟩ := hopen hl
      exact hform.lintels e hl.1
    · exact h.lintels e hold

/-- A change of the walls that keeps their lengths and chain heads. -/
theorem of_walls (hfeatures : t.features = s.features) {v : Nat} {g : Wall → Wall}
    (hwalls : ∀ w, t.wall w = if w = v then (s.wall w).map g else s.wall w)
    (hg : ∀ r, (g r).chainHead = r.chainHead ∧ (g r).length = r.length) : t.ChainsAre chains := by
  have hback {w : Nat} {r' : Wall} (hr' : t.wall w = some r') :
      ∃ r, s.wall w = some r ∧ r'.chainHead = r.chainHead := by
    rw [hwalls] at hr'
    split at hr'
    · obtain ⟨r, hr, rfl⟩ := Option.map_eq_some_iff.mp hr'
      exact ⟨r, hr, (hg r).1⟩
    · exact ⟨r', hr', rfl⟩
  constructor
  case segment =>
    intro w r' hr'
    obtain ⟨r, hr, hhead⟩ := hback hr'
    rw [hfeatures, hhead]
    exact h.segment w r hr
  case ofWall => intro w r' hr'; obtain ⟨r, hr, _⟩ := hback hr'; exact h.ofWall w r hr
  case inOrder => intro w r' hr'; obtain ⟨r, hr, _⟩ := hback hr'; exact h.inOrder w r hr
  case apart => intro w r' hr'; obtain ⟨r, hr, _⟩ := hback hr'; exact h.apart w r hr
  case inChain =>
    intro e he
    rw [hfeatures] at he
    obtain ⟨r, hr, hin, hxb⟩ := h.inChain e he
    rw [hwalls, hr]
    split
    · exact ⟨g r, rfl, hin, by rwa [(hg r).2]⟩
    · exact ⟨r, rfl, hin, hxb⟩
  case spans => rw [hfeatures]; exact h.spans
  case lintels => rw [hfeatures]; exact h.lintels

/-- Walls and features that stay. -/
theorem congr (hfeatures : t.features = s.features) (hwalls : t.walls = s.walls) : t.ChainsAre chains :=
  h.of_walls (v := 0) (g := id) hfeatures (fun w => by rw [Option.map_id, id, ite_self, State.wall, hwalls]; rfl)
    fun _ => ⟨rfl, rfl⟩

/-- R3: a wall is opened: it has no feature. -/
theorem opened {w : Nat} {length : Int} (hclosed : s.wall w = none) :
    ({ s with
      walls := Table.put s.walls w
        { length := length, chainHead := 0, nextCourse := 0, baseCourse := 0, settledTop := 0 } } : State).ChainsAre
      fun v => if v = w then [] else chains v := by
  refine h.rechain
    (x := some { length := length, chainHead := 0, nextCourse := 0, baseCourse := 0, settledTop := 0 })
    (fun v => ?_) (fun r hr => ?_) (fun _ _ _ => rfl) fun e he => ?_
  · by_cases hv : v = w
    · rw [if_pos hv, hv]
      exact Table.find_put_same _ _ _
    · rw [if_neg hv]
      exact Table.find_put_other _ _ hv
  · cases hr
    exact ⟨rfl, by constructor <;> simp⟩
  · obtain ⟨r, hr, _⟩ := h.inChain e he
    exact .inr ⟨he, fun heq => by rw [heq, hclosed] at hr; cases hr⟩

/-- R5: a wall is closed and its features are freed. -/
theorem closed {w : Nat} {r : Wall} (hcanonical : Table.canonical 1 65 s.features) (hr : s.wall w = some r) :
    ({ s with features := freeFeatures s.features (s.chain r), walls := Table.free s.walls w } : State).ChainsAre
      fun v => if v = w then [] else chains v := by
  have hchain := h.chain_eq hcanonical hr
  have hfreed (k : Nat) := find_freeFeatures s.features (chains w) k
  rw [hchain]
  refine h.rechain (x := none) (fun v => ?_) (fun _ hr => by cases hr) (fun e he hne => ?_) fun e he => ?_
  · by_cases hv : v = w
    · rw [if_pos hv, hv]
      exact Table.find_free_same _ _
    · rw [if_neg hv]
      exact Table.find_free_other _ hv
  · rw [hfreed, if_neg]
    simp only [List.any_eq_true, decide_eq_true_eq, not_exists, not_and]
    intro d hd heq
    have hsame : d.2 = e.2 := Option.some.inj
      (((h.segment w r hr).find hd).symm.trans (heq ▸ Table.find_of_mem hcanonical.1 he))
    exact hne (hsame ▸ h.ofWall w r hr d hd)
  · have hfind := Table.find_of_mem (freeFeatures_canonical (chains w) hcanonical).1 he
    rw [hfreed] at hfind
    split at hfind
    · cases hfind
    next hnone =>
      have hold := Table.mem_of_find hfind
      refine .inr ⟨hold, fun heq => hnone ?_⟩
      obtain ⟨_, _, hin, _⟩ := h.inChain e hold
      rw [heq] at hin
      exact List.any_eq_true.mpr ⟨e, hin, by simp⟩

end State.ChainsAre

end Sys2Proof.Machine
end

section
/-! A feature put into a chain, taken out of one, and given a lintel (01 R10 to R12), and so the statement about the
tables and the chains. -/

namespace Sys2Proof.Machine

/-! ### Relinking -/

/-- R10, R11: an entry of the pool once the feature `b`, if any, names the index given. -/
def relinked (b : Option Nat) (index : Nat) (e : Nat × Feature) : Nat × Feature :=
  if b = some e.1 then (e.1, { e.2 with next := index }) else e

section Relinked

variable {b : Option Nat} {index : Nat}

theorem relinked_key (e : Nat × Feature) : (relinked b index e).1 = e.1 := by
  unfold relinked
  split <;> rfl

theorem relinked_of_ne {e : Nat × Feature} (h : b ≠ some e.1) : relinked b index e = e := if_neg h

theorem relinked_sameOpening (e : Nat × Feature) : e.2.SameOpening (relinked b index e).2 := by
  unfold relinked
  split <;> exact ⟨rfl, rfl, rfl, rfl, rfl⟩

theorem relinked_lintel (e : Nat × Feature) : (relinked b index e).2.lintel = e.2.lintel := by
  unfold relinked
  split <;> rfl

theorem State.relink_features (s : State) (w : Nat) (b : Option Nat) (index : Nat) :
    (s.relink w b index).features = s.features.map (relinked b index) := by
  cases b with
  | none =>
    rw [show relinked none index = id from funext fun e => relinked_of_ne (by simp), List.map_id]
    rfl
  | some b =>
    refine List.map_congr_left fun e _ => ?_
    simp only [relinked, Option.some.injEq, eq_comm (a := b)]

theorem find_map_relinked (features : List (Nat × Feature)) (k : Nat) :
    Table.find (features.map (relinked b index)) k =
      (Table.find features k).map fun f => (relinked b index (k, f)).2 := by
  induction features with
  | nil => rfl
  | cons e features ih =>
    rw [List.map_cons, show relinked b index e = (e.1, (relinked b index e).2) from Prod.ext (relinked_key e) rfl,
      Table.find_cons, ih, show e = (e.1, e.2) from rfl, Table.find_cons]
    split
    next heq => rw [← heq]; rfl
    · rfl

theorem State.relink_wall (s : State) (w : Nat) (b : Option Nat) (index v : Nat) :
    (s.relink w b index).wall v =
      if v = w then (s.wall v).map fun r => { r with chainHead := if b = none then index else r.chainHead }
      else s.wall v := by
  cases b with
  | none => exact Table.find_update s.walls w v fun r => { r with chainHead := index }
  | some b =>
    have hsame : (fun r : Wall => { r with chainHead := if some b = none then index else r.chainHead }) = id := by
      funext r
      simp
    rw [hsame, Option.map_id, id, ite_self]
    rfl

/-- The last feature of a segment is made to name another index: the segment leads there, and where it is empty the index
itself is the start. -/
theorem Segment.relink {features l : List (Nat × Feature)} {start stop : Nat} (h : Segment features start stop l)
    (hnodup : (l.map Prod.fst).Nodup) :
    Segment (features.map (relinked (l.getLast?.map Prod.fst) index))
      (if l.getLast?.map Prod.fst = none then index else start) index
      (l.map (relinked (l.getLast?.map Prod.fst) index)) := by
  induction l generalizing start with
  | nil => simp
  | cons e l ih =>
    obtain ⟨rfl, hfind, hrest⟩ := h
    obtain ⟨hnot, hnodup⟩ := List.nodup_cons.mp hnodup
    cases l with
    | nil =>
      have hstart : Table.find (features.map (relinked (some e.1) index)) e.1 =
          some (relinked (some e.1) index e).2 := by rw [find_map_relinked, hfind]; rfl
      refine ⟨relinked_key e, hstart, ?_⟩
      simp [relinked]
    | cons d l =>
      have ih := ih hrest hnodup
      rw [List.getLast?_cons_cons]
      have hlast : (d :: l).getLast?.map Prod.fst ≠ none := by simp
      rw [if_neg hlast] at ih ⊢
      have hne : (d :: l).getLast?.map Prod.fst ≠ some e.1 := by
        intro heq
        obtain ⟨x, hx, hxe⟩ := Option.map_eq_some_iff.mp heq
        exact hnot (hxe ▸ List.mem_map_of_mem (List.mem_of_getLast? hx))
      rw [List.map_cons, relinked_of_ne hne]
      exact ⟨rfl, by rw [find_map_relinked, hfind, Option.map_some, relinked_of_ne hne], ih⟩

/-- A segment in which the relinked feature does not stand. -/
theorem Segment.map_relinked {features l : List (Nat × Feature)} {start stop : Nat} (h : Segment features start stop l)
    (hnot : ∀ e ∈ l, b ≠ some e.1) : Segment (features.map (relinked b index)) start stop l :=
  h.congr fun e he => by rw [find_map_relinked, h.find he, Option.map_some, relinked_of_ne (hnot e he)]

/-- What comes after the relinked feature is a list in which it does not stand. -/
theorem getLast?_key_ne {before after : List (Nat × Feature)} (hnodup : ((before ++ after).map Prod.fst).Nodup) :
    ∀ e ∈ after, before.getLast?.map Prod.fst ≠ some e.1 := by
  intro e he heq
  obtain ⟨x, hx, hxe⟩ := Option.map_eq_some_iff.mp heq
  rw [List.map_append, List.nodup_append] at hnodup
  exact hnodup.2.2 _ (List.mem_map_of_mem (List.mem_of_getLast? hx)) _ (List.mem_map_of_mem he) hxe

end Relinked

namespace State.ChainsAre

variable {s : State} {chains : Nat → List (Nat × Feature)} (h : s.ChainsAre chains)
  (hcanonical : Table.canonical 1 65 s.features)
include h hcanonical

/-- The key of a feature of another wall stands in no chain of this one. -/
theorem key_ne {w : Nat} {r : Wall} (hr : s.wall w = some r) {d e : Nat × Feature} (hd : d ∈ chains w)
    (he : e ∈ s.features) (hne : e.2.wall ≠ w) : d.1 ≠ e.1 := by
  intro heq
  have hsame : d.2 = e.2 := Option.some.inj
    (((h.segment w r hr).find hd).symm.trans (heq ▸ Table.find_of_mem hcanonical.1 he))
  exact hne (hsame ▸ h.ofWall w r hr d hd)

/-- The last feature of the part of a chain is no feature of another wall. -/
theorem relinked_other {w : Nat} {r : Wall} (hr : s.wall w = some r) {before : List (Nat × Feature)}
    (hbefore : ∀ d ∈ before, d ∈ chains w) {e : Nat × Feature} (he : e ∈ s.features) (hne : e.2.wall ≠ w) :
    before.getLast?.map Prod.fst ≠ some e.1 := by
  intro heq
  obtain ⟨x, hx, hxe⟩ := Option.map_eq_some_iff.mp heq
  exact h.key_ne hcanonical hr (hbefore x (List.mem_of_getLast? hx)) he hne hxe

/-- R11: a feature is unlinked and freed. -/
theorem dropped {k : Nat} {f : Feature} (hf : s.feature k = some f) :
    ∃ chains', State.ChainsAre
      { s.relink f.wall (s.before (s.wallOf f) k) f.next with
        features := Table.free (s.relink f.wall (s.before (s.wallOf f) k) f.next).features k } chains' := by
  obtain ⟨r, hr, hin, _⟩ := h.inChain _ (Table.mem_of_find hf)
  dsimp only at hr hin
  have hwallOf : s.wallOf f = r := by rw [State.wallOf, hr]; rfl
  obtain ⟨before, after, hchain⟩ := List.append_of_mem hin
  have hsegment := h.segment _ _ hr
  have hnodup := h.nodup hr
  have hform := h.inForm hr
  rw [hchain] at hsegment hnodup hform
  obtain ⟨mid, hbefore, rfl, _, hafter⟩ := segment_append.mp hsegment
  have hkeys : ∀ e ∈ before ++ after, e.1 ≠ k := by
    intro e he heq
    rw [List.map_append, List.map_cons, List.nodup_middle, List.nodup_cons, ← List.map_append] at hnodup
    exact hnodup.1 (List.mem_map.mpr ⟨e, he, heq⟩)
  have hbeforeOf : s.before r k = before.getLast?.map Prod.fst := by
    rw [State.before, h.chain_eq hcanonical hr, hchain, List.takeWhile_append_of_pos, List.takeWhile_cons_of_neg (by simp),
      List.append_nil]
    intro e he
    simpa using hkeys e (List.mem_append_left _ he)
  have hnodup' : ((before ++ after).map Prod.fst).Nodup :=
    hnodup.sublist (List.Sublist.map _ (List.Sublist.append_left (List.sublist_cons_self _ _) _))
  rw [hwallOf, hbeforeOf]
  refine ⟨_, h.rechain (w := f.wall)
    (x := some { r with
      chainHead := if before.getLast?.map Prod.fst = none then f.next else r.chainHead })
    (l := (before ++ after).map (relinked (before.getLast?.map Prod.fst) f.next)) (fun v => ?_) (fun r' hr' => ?_)
    (fun e he hne => ?_) fun e he => ?_⟩
  · refine (State.relink_wall s _ _ _ v).trans ?_
    by_cases hv : v = f.wall
    · rw [if_pos hv, if_pos hv, hv, hr]
      rfl
    · rw [if_neg hv, if_neg hv]
  · cases hr'
    refine ⟨?_, ((hform.sublist (List.Sublist.append_left (List.sublist_cons_self _ _) _)).map
      (g := relinked (before.getLast?.map Prod.fst) f.next) (fun e _ => relinked_sameOpening e)
      fun e he m hm => ?_).of_length rfl⟩
    · have hlinked : Segment (s.features.map (relinked (before.getLast?.map Prod.fst) f.next))
          (if before.getLast?.map Prod.fst = none then f.next else r.chainHead) 0
          ((before ++ after).map (relinked (before.getLast?.map Prod.fst) f.next)) := by
        rw [List.map_append, List.map_congr_left fun e he => relinked_of_ne (getLast?_key_ne hnodup' e he), List.map_id']
        exact segment_append.mpr ⟨f.next, hbefore.relink (by
          rw [List.map_append, List.nodup_append] at hnodup'
          exact hnodup'.1), hafter.map_relinked (getLast?_key_ne hnodup')⟩
      refine hlinked.congr fun e he => ?_
      obtain ⟨d, hd, rfl⟩ := List.mem_map.mp he
      rw [State.relink_features, Table.find_free_other]
      rw [relinked_key]
      exact hkeys d hd
    · rw [relinked_lintel] at hm
      exact h.lintels e (h.mem_features hr (by rw [hchain]; exact List.mem_append.mpr ((List.mem_append.mp he).imp_right
        (List.mem_cons_of_mem _)))) m hm
  · have hbeforeIn : ∀ d ∈ before, d ∈ chains f.wall := fun d hd => hchain ▸ List.mem_append_left _ hd
    have hek : e.1 ≠ k := (h.key_ne hcanonical hr hin he hne).symm
    dsimp only
    rw [State.relink_features, Table.find_free_other _ hek, find_map_relinked, Table.find_of_mem hcanonical.1 he,
      Option.map_some, relinked_of_ne (h.relinked_other hcanonical hr hbeforeIn he hne)]
  · have hbeforeIn : ∀ d ∈ before, d ∈ chains f.wall := fun d hd => hchain ▸ List.mem_append_left _ hd
    dsimp only at he
    rw [State.relink_features, Table.free, List.mem_filter] at he
    obtain ⟨hmem, hek⟩ := he
    obtain ⟨d, hd, rfl⟩ := List.mem_map.mp hmem
    rw [relinked_key] at hek
    by_cases hwall : d.2.wall = f.wall
    · obtain ⟨_, _, hdin, _⟩ := h.inChain d hd
      rw [hwall, hchain] at hdin
      refine .inl ⟨List.mem_map_of_mem ?_, rfl⟩
      rcases List.mem_append.mp hdin with hdin | hdin
      · exact List.mem_append_left _ hdin
      · rcases List.mem_cons.mp hdin with rfl | hdin
        · simp at hek
        · exact List.mem_append_right _ hdin
    · rw [relinked_of_ne (h.relinked_other hcanonical hr hbeforeIn hd hwall)]
      exact .inr ⟨hd, hwall⟩

/-- R10: a feature is linked in, at a free index, where it stands by x_a and then z_sill. -/
theorem linked {w k : Nat} {r : Wall} {new : Feature} {before after : List (Nat × Feature)} (hr : s.wall w = some r)
    (hwall : new.wall = w) (hbare : new.lintel = none) (hx : 0 ≤ new.xa ∧ new.xa < new.xb ∧ new.xb ≤ r.length)
    (hz : 0 ≤ new.zSill ∧ new.zSill < new.zHead ∧ new.zHead ≤ 8388607) (hfree : s.feature k = none)
    (hchain : s.chain r = before ++ after) (hclear : ∀ e ∈ s.chain r, ¬ new.overlaps e.2)
    (hbefore : ∀ e ∈ before, ¬ followsNew new.xa new.zSill e)
    (hafter : ∀ e, after.head? = some e → followsNew new.xa new.zSill e) :
    ∃ chains', (s.linkFeature w k new before after).ChainsAre chains' := by
  have hsegment := h.segment w r hr
  have hnodup := h.nodup hr
  have hform := h.inForm hr
  rw [h.chain_eq hcanonical hr] at hchain hclear
  rw [hchain] at hsegment hnodup hform hclear
  obtain ⟨mid, hsegmentBefore, hsegmentAfter⟩ := segment_append.mp hsegment
  have hbeforeIn : ∀ d ∈ before, d ∈ chains w := fun d hd => hchain ▸ List.mem_append_left _ hd
  have hkey : ∀ e ∈ s.features, e.1 ≠ k := by
    intro e he heq
    rw [State.feature, ← heq, Table.find_of_mem hcanonical.1 he] at hfree
    cases hfree
  have hin : ∀ e ∈ before ++ after, e ∈ s.features := fun e he => h.mem_features hr (hchain ▸ he)
  generalize hb : before.getLast?.map Prod.fst = b
  have hlast : ∀ e ∈ after, b ≠ some e.1 := hb ▸ getLast?_key_ne hnodup
  have hfeatures : (s.linkFeature w k new before after).features =
      Table.put (s.features.map (relinked b k)) k { new with next := (after.head?.map Prod.fst).getD 0 } := by
    rw [State.linkFeature, hb, ← State.relink_features]
  have hform' : ChainInForm w r (before ++ (k, { new with next := (after.head?.map Prod.fst).getD 0 }) :: after) := by
    have hstays : ∀ e ∈ before, e.2.xa < new.xa ∨ (e.2.xa = new.xa ∧ e.2.zSill < new.zSill) := by
      intro e he
      have hspans := hform.spans e (List.mem_append_left _ he)
      have hnot := hbefore e he
      have hapart := hclear e (List.mem_append_left _ he)
      rw [followsNew_iff] at hnot
      rw [Feature.overlaps_iff] at hapart
      omega
    have hfollows : ∀ e ∈ after, new.xa < e.2.xa ∨ (e.2.xa = new.xa ∧ new.zSill < e.2.zSill) := by
      intro e he
      cases after with
      | nil => simp at he
      | cons d after =>
        have hd := (followsNew_iff _ _ _).mp (hafter d rfl)
        rcases List.mem_cons.mp he with rfl | he
        · exact hd
        · have := (List.pairwise_cons.mp (List.pairwise_append.mp hform.inOrder).2.1).1 e he
          omega
    constructor
    case ofWall => simpa [or_imp, forall_and, hwall] using hform.ofWall
    case within => simpa [or_imp, forall_and, hx.2.2] using hform.within
    case spans =>
      intro e he
      rcases List.mem_append.mp he with he | he
      · exact hform.spans e (List.mem_append_left _ he)
      · rcases List.mem_cons.mp he with rfl | he
        · exact ⟨hx.1, hx.2.1, hz⟩
        · exact hform.spans e (List.mem_append_right _ he)
    case lintels =>
      intro e he
      rcases List.mem_append.mp he with he | he
      · exact hform.lintels e (List.mem_append_left _ he)
      · rcases List.mem_cons.mp he with rfl | he
        · simp [hbare]
        · exact hform.lintels e (List.mem_append_right _ he)
    case inOrder =>
      obtain ⟨hl, hr, hlr⟩ := List.pairwise_append.mp hform.inOrder
      refine List.pairwise_append.mpr ⟨hl, List.pairwise_cons.mpr ⟨fun e he => ?_, hr⟩, fun a ha e he => ?_⟩
      · have := hfollows e he
        dsimp only
        omega
      · rcases List.mem_cons.mp he with rfl | he
        · exact hstays a ha
        · exact hlr a ha e he
    case apart =>
      obtain ⟨hl, hr, hlr⟩ := List.pairwise_append.mp hform.apart
      refine List.pairwise_append.mpr ⟨hl, List.pairwise_cons.mpr ⟨fun e he => ?_, hr⟩, fun a ha e he => ?_⟩
      · exact hclear e (List.mem_append_right _ he)
      · rcases List.mem_cons.mp he with rfl | he
        · have := hclear a (List.mem_append_left _ ha)
          rw [Feature.overlaps_iff] at this ⊢
          tauto
        · exact hlr a ha e he
  have hbk : b ≠ some k := by
    intro heq
    obtain ⟨e, he, hek⟩ := Option.map_eq_some_iff.mp (hb.trans heq)
    exact hkey e (hin e (List.mem_append_left _ (List.mem_of_getLast? he))) hek
  generalize hnew : ({ new with next := (after.head?.map Prod.fst).getD 0 } : Feature) = new' at hfeatures hform'
  have hmap : (before ++ (k, new') :: after).map (relinked b k) = before.map (relinked b k) ++ (k, new') :: after := by
    rw [List.map_append, List.map_cons, relinked_of_ne hbk,
      List.map_congr_left fun e he => relinked_of_ne (hlast e he), List.map_id']
  have hotherFind {e : Nat × Feature} (he : e ∈ s.features) (hne : b ≠ some e.1) :
      Table.find (s.linkFeature w k new before after).features e.1 = some e.2 := by
    rw [hfeatures, Table.find_put_other _ _ (hkey e he), find_map_relinked, Table.find_of_mem hcanonical.1 he,
      Option.map_some, relinked_of_ne hne]
  refine ⟨_, h.rechain (w := w) (x := some { r with chainHead := if b = none then k else r.chainHead })
    (l := before.map (relinked b k) ++ (k, new') :: after) (fun v => ?_) (fun r' hr' => ?_) (fun e he hne => ?_)
    fun e he => ?_⟩
  · refine (State.relink_wall s w _ k v).trans ?_
    by_cases hv : v = w
    · rw [if_pos hv, if_pos hv, hv, hr, hb]
      rfl
    · rw [if_neg hv, if_neg hv]
  · cases hr'
    refine ⟨segment_append.mpr ⟨k, ?_, rfl, ?_, ?_⟩, ?_⟩
    · have hlinked := hsegmentBefore.relink (index := k) (by
        rw [List.map_append, List.nodup_append] at hnodup
        exact hnodup.1)
      rw [hb] at hlinked
      refine hlinked.congr fun e he => ?_
      obtain ⟨d, hd, rfl⟩ := List.mem_map.mp he
      rw [hfeatures, Table.find_put_other]
      rw [relinked_key]
      exact hkey d (hin d (List.mem_append_left _ hd))
    · rw [hfeatures]
      exact Table.find_put_same _ _ _
    · have hmid : new'.next = mid := by rw [← hnew, hsegmentAfter.start_eq]
      rw [hmid]
      refine hsegmentAfter.congr fun e he => ?_
      have he' := hin e (List.mem_append_right _ he)
      rw [hotherFind he' (hlast e he), Table.find_of_mem hcanonical.1 he']
    · refine ChainInForm.of_length (r := r) (hmap ▸ hform'.map (fun e _ => relinked_sameOpening e) fun e he m hm => ?_) rfl
      rw [relinked_lintel] at hm
      exact hform'.lintels e he m hm
  · rw [hotherFind he (hb ▸ h.relinked_other hcanonical hr hbeforeIn he hne), Table.find_of_mem hcanonical.1 he]
  · rw [hfeatures] at he
    rcases Table.mem_put he with rfl | he
    · exact .inl ⟨List.mem_append_right _ List.mem_cons_self, rfl⟩
    · obtain ⟨d, hd, rfl⟩ := List.mem_map.mp he
      by_cases hdw : d.2.wall = w
      · obtain ⟨_, _, hdin, _⟩ := h.inChain d hd
        rw [hdw, hchain] at hdin
        refine .inl ⟨?_, rfl⟩
        rcases List.mem_append.mp hdin with hdin | hdin
        · exact List.mem_append_left _ (List.mem_map_of_mem hdin)
        · rw [relinked_of_ne (hlast d hdin)]
          exact List.mem_append_right _ (List.mem_cons_of_mem _ hdin)
      · rw [relinked_of_ne (hb ▸ h.relinked_other hcanonical hr hbeforeIn hd hdw)]
        exact .inr ⟨hd, hdw⟩

end State.ChainsAre

end Sys2Proof.Machine
end

section
/-! A lintel placed on an opening (01 R12), and with it every change of the records: the tables and the chains (O56). -/

namespace Sys2Proof.Machine

/-- A change of one feature that keeps its next field changes the segments through it in place. -/
theorem Segment.update {features l : List (Nat × Feature)} {start stop k : Nat} {f : Feature → Feature}
    (h : Segment features start stop l) (hf : ∀ x, (f x).next = x.next) :
    Segment (Table.update features k f) start stop (Table.update l k f) := by
  induction l generalizing start with
  | nil => exact h
  | cons e l ih =>
    obtain ⟨rfl, hfind, hrest⟩ := h
    have ih := ih hrest
    rw [Table.update, Table.update, List.map_cons, ← Table.update, ← Table.update]
    split
    · next hk => exact ⟨rfl, by simp [hk ▸ hfind, hk], by simpa [hf] using ih⟩
    · next hk => exact ⟨rfl, by rw [Table.find_update_other _ _ hk, hfind], ih⟩

namespace State.ChainsAre

variable {s t : State} {chains : Nat → List (Nat × Feature)} (h : s.ChainsAre chains)
include h

/-- R12: a lintel is placed on a feature. -/
theorem lintelPlaced (hcanonical : Table.canonical 1 65 s.features) {k : Nat} {f : Feature} (l : Lintel)
    (hf : s.feature k = some f) (htop : f.zHead ≤ l.topZ ∧ l.topZ ≤ 8388607)
    (hbearing : 0 ≤ l.bearing ∧ l.bearing ≤ 3000) :
    ∃ chains', (s.updateFeature k fun f => { f with lintel := some l }).ChainsAre chains' := by
  obtain ⟨r, hr, hin, _⟩ := h.inChain _ (Table.mem_of_find hf)
  dsimp only at hr hin
  refine ⟨_, h.rechain (w := f.wall) (x := some r)
    (l := Table.update (chains f.wall) k fun f => { f with lintel := some l }) (fun v => ?_) (fun r' hr' => ?_)
    (fun e he hne => ?_) fun e he => ?_⟩
  · split
    next hv => rw [hv]; exact hr
    · rfl
  · cases hr'
    have hsegment := (h.segment _ _ hr).update (k := k) (f := fun f => { f with lintel := some l }) fun _ => rfl
    refine ⟨hsegment, (h.inForm hr).map (fun e _ => ?_) fun e he m hm => ?_⟩
    · split <;> exact ⟨rfl, rfl, rfl, rfl, rfl⟩
    · split at hm
      next hk =>
        have hsame : e.2 = f := Option.some.inj (((h.segment _ _ hr).find he).symm.trans (hk ▸ hf))
        cases hm
        rw [hsame]
        exact ⟨htop.1, htop.2, hbearing⟩
      · exact (h.inForm hr).lintels e he m hm
  · exact Table.find_update_other s.features (fun f => { f with lintel := some l })
      (h.key_ne hcanonical hr hin he hne).symm
  · obtain ⟨d, hd, rfl⟩ := List.mem_map.mp he
    by_cases hwall : d.2.wall = f.wall
    · obtain ⟨_, _, hdin, _⟩ := h.inChain d hd
      exact .inl ⟨List.mem_map_of_mem (hwall ▸ hdin), rfl⟩
    · rw [if_neg (h.key_ne hcanonical hr hin hd hwall).symm]
      exact .inr ⟨hd, hwall⟩

end State.ChainsAre

/-! ### What the larger changes do to the walls and the features -/

theorem allocate_features (s : State) (entry : Nat) (c : Course) (plans : List RunPlan) :
    (allocate s entry c plans).2.features = s.features := by
  rw [allocate_frame]

/-- No feature and no wall: no chain. -/
theorem State.chainsAre_of_empty {s : State} (hwalls : s.walls = []) (hfeatures : s.features = []) :
    s.ChainsAre fun _ => [] := by
  have hwall (w : Nat) (r : Wall) : s.wall w ≠ some r := by
    rw [State.wall, hwalls]
    exact nofun
  constructor
  case inChain | spans | lintels => simp [hfeatures]
  case segment | ofWall | inOrder | apart => exact fun w r hr => absurd hr (hwall w r)

theorem RecordChange.chainsAre {s t : State} (h : RecordChange s t) (hs : s.tablesCanonical)
    {chains : Nat → List (Nat × Feature)} (hc : s.ChainsAre chains) : ∃ chains', t.ChainsAre chains' := by
  have hfeatures := hs.2.1
  cases h with
  | same h => exact ⟨_, hc.congr (State.features_of_records h) (State.walls_of_records h)⟩
  | reset h => exact ⟨_, State.chainsAre_of_empty (State.walls_of_records h) (State.features_of_records h)⟩
  | wallOpened length hw hclosed => exact ⟨_, hc.opened hclosed⟩
  | wallClosed hr hpass => exact ⟨_, hc.closed hfeatures hr⟩
  | featureLinked hr hwall hbare hx hz hk hfree hchain hclear hbefore hafter =>
    exact hc.linked hfeatures hr hwall hbare hx hz hfree hchain hclear hbefore hafter
  | featureDropped hf => exact hc.dropped hfeatures hf
  | lintelPlaced l hf htop hbearing => exact hc.lintelPlaced hfeatures l hf htop hbearing
  | committed hload hcourse hpass =>
    exact ⟨_, hc.of_walls (allocate_features _ _ _ _) (allocate_wall _ _ _ _) fun _ => ⟨rfl, rfl⟩⟩
  | retired hr hc' hcomplete hlowest => exact ⟨_, hc.of_walls rfl (retire_wall _ _ _) fun _ => ⟨rfl, rfl⟩⟩
  | loadDropped =>
    rw [State.dropLoad_frame]
    exact ⟨_, hc.congr rfl rfl⟩
  | kindDefined | profileDefined | loadOpened | runReceived | slotMoved | sightLost | runMoved | completed | fed
  | delivered | flushed | issued | placed => exact ⟨_, hc.congr rfl rfl⟩

/-- R7, R9 to R12: a change of the records keeps the chains linked. -/
theorem RecordChange.chainsLinked {s t : State} (h : RecordChange s t) (hs : s.tablesCanonical)
    (hc : s.ChainsLinked) : t.ChainsLinked := by
  obtain ⟨chains, hchains⟩ := (chainsLinked_iff hs.1 hs.2.1).mp hc
  have ht := h.tablesCanonical hs
  exact (chainsLinked_iff ht.1 ht.2.1).mpr (h.chainsAre hs hchains)

/-- Settles O56: every change of the records that a step makes keeps the tables canonical, and the chains linked. -/
theorem stepKeepsTheTablesCanonical : Obligations.StepKeepsTheTablesCanonical := by
  refine ⟨fun s t hs ht => ?_, fun s t hs hc ht => ?_⟩
  · exact step_keeps (P := State.tablesCanonical) (fun _ _ h hs => h.tablesCanonical hs) (fun _ _ hs => hs) hs ht
  · exact (step_keeps (P := fun s => s.tablesCanonical ∧ s.ChainsLinked)
      (fun _ _ h hs => ⟨h.tablesCanonical hs.1, h.chainsLinked hs.1 hs.2⟩)
      (fun _ _ hs => ⟨hs.1, { hs.2 with }⟩) ⟨hs, hc⟩ ht).2

end Sys2Proof.Machine
end

section
/-! Every change of the records keeps the load record in step with the LOADING course entry (02 R23). -/

namespace Sys2Proof.Machine

/-- R23: a course entry is LOADING. -/
def State.isLoading (s : State) (e : Nat) : Prop := ∃ c, s.course e = some c ∧ c.state = .loading

theorem loadNamesLoading_iff {s : State} (hcourses : Table.canonical 0 courseCapacity s.courses) :
    s.loadNamesLoading ↔ ∀ e, s.isLoading e ↔ ∃ l, s.load = some l ∧ l.entry = e := by
  have hleft (e : Nat) :
      e ∈ (s.courses.filter fun e => e.2.state = .loading).map Prod.fst ↔ s.isLoading e := by
    simp only [List.mem_map, List.mem_filter, decide_eq_true_eq, State.isLoading, State.course]
    constructor
    · rintro ⟨x, ⟨hx, hloading⟩, rfl⟩
      exact ⟨x.2, Table.find_of_mem hcourses.1 hx, hloading⟩
    · rintro ⟨c, hc, hloading⟩
      exact ⟨(e, c), ⟨Table.mem_of_find hc, hloading⟩, rfl⟩
  have hright (e : Nat) : e ∈ (s.load.map Load.entry).toList ↔ ∃ l, s.load = some l ∧ l.entry = e := by
    simp [Option.map_eq_some_iff]
  constructor
  · intro h e
    rw [← hleft, ← hright, h]
  · intro h
    have hsorted : ((s.courses.filter fun e => e.2.state = .loading).map Prod.fst).Pairwise (· < ·) :=
      List.pairwise_map.mpr (hcourses.1.filter _)
    have hsorted' : (s.load.map Load.entry).toList.Pairwise (· < ·) := by
      cases s.load <;> simp
    have hperm := (List.perm_ext_iff_of_nodup (hsorted.imp Nat.ne_of_lt) (hsorted'.imp Nat.ne_of_lt)).mpr fun e => by
      rw [hleft, hright, h]
    exact hperm.eq_of_pairwise (fun a b _ _ hab hba => absurd hab (Nat.lt_asymm hba)) hsorted hsorted'

section Loading

variable {s t : State}

theorem State.updateCourse_course (s : State) (k : Nat) (f : Course → Course) (e : Nat) :
    (s.updateCourse k f).course e = if e = k then (s.course e).map f else s.course e := Table.find_update _ _ _ _

theorem State.isLoading_of_courses (h : t.courses = s.courses) (e : Nat) : t.isLoading e ↔ s.isLoading e := by
  rw [State.isLoading, State.isLoading, State.course, State.course, h]

/-- A change of one entry that is LOADING neither before nor after. -/
theorem State.isLoading_of_other {k : Nat} (hother : ∀ e, e ≠ k → t.course e = s.course e) (hs : ¬ s.isLoading k)
    (ht : ¬ t.isLoading k) (e : Nat) : t.isLoading e ↔ s.isLoading e := by
  by_cases he : e = k
  · rw [he]
    exact iff_of_false ht hs
  · rw [State.isLoading, State.isLoading, hother e he]

theorem State.not_isLoading_of_course {k : Nat} {c : Course} (hc : s.course k = some c) (hstate : c.state ≠ .loading) :
    ¬ s.isLoading k := by
  rintro ⟨c', hc', hloading⟩
  rw [hc] at hc'
  cases hc'
  exact hstate hloading

theorem State.not_isLoading_of_none {k : Nat} (hc : s.course k = none) : ¬ s.isLoading k := by
  rintro ⟨c, hc', _⟩
  rw [hc] at hc'
  cases hc'

end Loading

/-- R23, R25 to R28: the LOADING entry is that of the load after every change as it was before. -/
theorem RecordChange.isLoading_iff {s t : State} (h : RecordChange s t) (hs : s.tablesCanonical)
    (hl : ∀ e, s.isLoading e ↔ ∃ l, s.load = some l ∧ l.entry = e) (e : Nat) :
    t.isLoading e ↔ ∃ l, t.load = some l ∧ l.entry = e := by
  cases h with
  | same h => rw [State.isLoading_of_courses (State.courses_of_records h), State.load_of_records h, hl]
  | reset h =>
    rw [State.isLoading_of_courses (State.courses_of_records h), State.load_of_records h]
    exact iff_of_false (State.not_isLoading_of_none rfl) (by rintro ⟨l, hl, _⟩; cases hl)
  | loadOpened hr hload hlast hentry hempty =>
    rename_i w kind profile runCount entry r
    by_cases he : e = entry
    · rw [he]
      exact iff_of_true ⟨_, Table.find_put_same _ _ _, rfl⟩ ⟨_, rfl, rfl⟩
    · have hother : (s.openLoad w kind profile runCount entry r).course e = s.course e := Table.find_put_other _ _ he
      have hnot : ¬ s.isLoading e := by
        rw [hl, hload]
        rintro ⟨l, hl, _⟩
        cases hl
      rw [State.isLoading, hother]
      refine iff_of_false hnot ?_
      rintro ⟨l, hl, rfl⟩
      cases hl
      exact he rfl
  | runReceived l' hload hentry =>
    refine (hl e).trans ?_
    rw [hload]
    simp [hentry]
  | committed hload hc hpass =>
    rename_i l c r runs plans
    refine iff_of_false ?_ (by rw [allocate_frame]; rintro ⟨l, hl, _⟩; cases hl)
    rintro ⟨c', hc', hloading⟩
    rw [allocate_course] at hc'
    split at hc'
    · obtain ⟨d, _, rfl⟩ := Option.map_eq_some_iff.mp hc'
      cases hloading
    next hne =>
      obtain ⟨l', hl', rfl⟩ := (hl e).mp ⟨c', hc', hloading⟩
      rw [hload] at hl'
      cases hl'
      exact hne rfl
  | loadDropped =>
    refine iff_of_false ?_ (by rw [State.dropLoad_load]; rintro ⟨l, hl, _⟩; cases hl)
    rintro ⟨c, hc, hloading⟩
    rw [State.dropLoad_course] at hc
    split at hc
    · cases hc
    next hne =>
      obtain ⟨l, hload, rfl⟩ := (hl e).mp ⟨c, hc, hloading⟩
      exact hne (by rw [hload]; simp)
  | retired hr hc hcomplete hlowest =>
    rename_i entry c r
    refine (State.isLoading_of_other (fun e he => retire_course_other s entry c he) ?_ ?_ e).trans (hl e)
    · exact State.not_isLoading_of_course (Table.find_of_mem hs.2.2.2.2.1.1 hc) (by rw [hcomplete]; decide)
    · exact State.not_isLoading_of_none (retire_course_same s entry c)
  | completed hc hall =>
    rename_i entry c
    have hactive := ((s.allVerified_iff c).mp hall).1
    refine (State.isLoading_of_other (k := entry)
      (fun e he => by rw [State.updateCourse_course, if_neg he]) ?_ ?_ e).trans (hl e)
    · exact State.not_isLoading_of_course hc (by rw [hactive]; decide)
    · refine State.not_isLoading_of_course (c := { c with state := .complete }) ?_ (by simp)
      rw [State.updateCourse_course, if_pos rfl, hc]
      rfl
  | featureLinked =>
    rw [State.linkFeature_frame]
    exact hl e
  | featureDropped =>
    rw [State.relink_frame]
    exact hl e
  | wallOpened | wallClosed | kindDefined | profileDefined | slotMoved | sightLost | runMoved | fed | delivered | flushed
  | issued | placed | lintelPlaced => exact hl e

theorem RecordChange.loadNamesLoading {s t : State} (h : RecordChange s t) (hs : s.tablesCanonical)
    (hl : s.loadNamesLoading) : t.loadNamesLoading :=
  (loadNamesLoading_iff (h.tablesCanonical hs).2.2.2.2.1).mpr
    (h.isLoading_iff hs ((loadNamesLoading_iff hs.2.2.2.2.1).mp hl))

/-- Settles O58: every change of the records that a step makes keeps the load record in step with the LOADING entry. -/
theorem stepKeepsTheLoadRecord : Obligations.StepKeepsTheLoadRecord := by
  intro s t hs hl ht
  exact (step_keeps (P := fun s => s.tablesCanonical ∧ s.loadNamesLoading)
    (fun _ _ h hs => ⟨h.tablesCanonical hs.1, h.loadNamesLoading hs.1 hs.2⟩) (fun _ _ hs => hs) ⟨hs, hl⟩ ht).2

end Sys2Proof.Machine
end

section
/-! Every change of the records keeps the courses of each wall numbered in order (02 R21): what a change does to one course
is said on the list of the courses up to its order, with the changed course in front. -/

namespace Sys2Proof.Machine

/-! ### One record in front -/

section Front

variable {α : Type} {t : List (Nat × α)} {k : Nat} {v : α}

/-- A record in use and the rest of its table. -/
theorem Table.perm_free (ht : t.Pairwise fun a b => a.1 < b.1) (hv : Table.find t k = some v) :
    t.Perm ((k, v) :: Table.free t k) := by
  induction t with
  | nil => cases hv
  | cons e t ih =>
    obtain ⟨hlt, ht⟩ := List.pairwise_cons.mp ht
    rw [Table.find_cons] at hv
    split at hv
    next hk =>
      cases hv
      subst hk
      rw [Table.free, List.filter_cons_of_neg (by simp), List.filter_eq_self.mpr]
      intro d hd
      simpa using Nat.ne_of_gt (hlt d hd)
    next hk =>
      rw [Table.free, List.filter_cons_of_pos (by simpa using hk)]
      exact ((ih ht hv).cons _).trans (.swap _ _ _)

/-- A record changed and the rest of its table. -/
theorem Table.update_perm (ht : t.Pairwise fun a b => a.1 < b.1) (hv : Table.find t k = some v) (f : α → α) :
    (Table.update t k f).Perm ((k, f v) :: Table.free t k) := by
  refine ((Table.perm_free ht hv).map _).trans ?_
  rw [List.map_cons, if_pos rfl, List.map_congr_left (g := id), List.map_id]
  intro e he
  have hk : e.1 ≠ k := by simpa using (List.mem_filter.mp he).2
  rw [if_neg hk, id]

end Front

/-! ### The numbers of one wall -/

/-- R21: the numbers of a wall's live courses. -/
def liveNumbers (courses : List (Nat × Course)) (w : Nat) : List Nat :=
  (courses.filter fun e => e.2.wall = w ∧ e.2.live).map fun e => e.2.number

/-- R21: the courses of one wall fit its base course and its next course number. -/
structure NumbersFit (courses : List (Nat × Course)) (w : Nat) (r : Wall) : Prop where
  base : r.baseCourse ≤ r.nextCourse
  limit : r.nextCourse ≤ 255
  live : (liveNumbers courses w).Perm (List.range' r.baseCourse (r.nextCourse - r.baseCourse))
  loading : ∀ e ∈ courses, e.2.wall = w → e.2.live = false → e.2.number = r.nextCourse ∧ r.nextCourse ≤ 254

theorem numbersInOrder_iff {s : State} (hwalls : Table.canonical 0 4 s.walls) :
    s.numbersInOrder ↔
      (∀ e ∈ s.courses, (s.wall e.2.wall).isSome = true) ∧ ∀ w r, s.wall w = some r → NumbersFit s.courses w r := by
  refine and_congr_right fun _ => ⟨fun h w r hr => ?_, fun h r hr => ?_⟩
  · obtain ⟨hbase, hlimit, hlive, hloading⟩ := h _ ((State.wall_iff_mem hwalls).mp hr)
    exact ⟨hbase, hlimit, hlive, hloading⟩
  · obtain ⟨hbase, hlimit, hlive, hloading⟩ := h r.1 r.2 ((State.wall_iff_mem hwalls).mpr hr)
    exact ⟨hbase, hlimit, hlive, hloading⟩

namespace NumbersFit

variable {courses courses' rest : List (Nat × Course)} {w k : Nat} {r r' : Wall} {c c' : Course}

theorem perm (h : NumbersFit courses w r) (hperm : courses'.Perm courses) : NumbersFit courses' w r where
  base := h.base
  limit := h.limit
  live := ((hperm.filter _).map _).trans h.live
  loading e he := h.loading e (hperm.mem_iff.mp he)

/-- The numbers of a wall say nothing of its openings. -/
theorem of_wall (h : NumbersFit courses w r) (hbase : r'.baseCourse = r.baseCourse)
    (hnext : r'.nextCourse = r.nextCourse) : NumbersFit courses w r' where
  base := by rw [hbase, hnext]; exact h.base
  limit := by rw [hnext]; exact h.limit
  live := by rw [hbase, hnext]; exact h.live
  loading := by rw [hnext]; exact h.loading

theorem liveNumbers_cons_other (hc : ¬ (c.wall = w ∧ c.live = true)) :
    liveNumbers ((k, c) :: rest) w = liveNumbers rest w := by
  rw [liveNumbers, List.filter_cons_of_neg (by simpa using hc)]
  rfl

theorem liveNumbers_cons_live (hw : c.wall = w) (hc : c.live = true) :
    liveNumbers ((k, c) :: rest) w = c.number :: liveNumbers rest w := by
  rw [liveNumbers, List.filter_cons_of_pos (by simpa using ⟨hw, hc⟩)]
  rfl

theorem cons_other (hc : c.wall ≠ w) : NumbersFit ((k, c) :: rest) w r ↔ NumbersFit rest w r := by
  have hlive : liveNumbers ((k, c) :: rest) w = liveNumbers rest w := liveNumbers_cons_other fun h => hc h.1
  constructor
  · exact fun h => ⟨h.base, h.limit, hlive ▸ h.live, fun e he => h.loading e (List.mem_cons_of_mem _ he)⟩
  · refine fun h => ⟨h.base, h.limit, hlive ▸ h.live, fun e he hw => ?_⟩
    rcases List.mem_cons.mp he with rfl | he
    · exact absurd hw hc
    · exact h.loading e he hw

theorem cons_loading (hw : c.wall = w) (hc : c.live = false) :
    NumbersFit ((k, c) :: rest) w r ↔ NumbersFit rest w r ∧ c.number = r.nextCourse ∧ r.nextCourse ≤ 254 := by
  have hlive : liveNumbers ((k, c) :: rest) w = liveNumbers rest w := liveNumbers_cons_other (by simp [hc])
  constructor
  · exact fun h => ⟨⟨h.base, h.limit, hlive ▸ h.live, fun e he => h.loading e (List.mem_cons_of_mem _ he)⟩,
      h.loading _ List.mem_cons_self hw hc⟩
  · refine fun ⟨h, hnumber⟩ => ⟨h.base, h.limit, hlive ▸ h.live, fun e he hw hlive => ?_⟩
    rcases List.mem_cons.mp he with rfl | he
    · exact hnumber
    · exact h.loading e he hw hlive

/-- A live course for a live course of the same wall and number. -/
theorem cons_live (hw : c'.wall = c.wall) (hnumber : c'.number = c.number) (hc : c.live = true) (hc' : c'.live = true)
    (h : NumbersFit ((k, c) :: rest) w r) : NumbersFit ((k, c') :: rest) w r := by
  by_cases hwall : c.wall = w
  · refine ⟨h.base, h.limit, ?_, fun e he hw hlive => ?_⟩
    · rw [liveNumbers_cons_live (hw.trans hwall) hc', hnumber, ← liveNumbers_cons_live (k := k) hwall hc]
      exact h.live
    · rcases List.mem_cons.mp he with rfl | he
      · rw [hc'] at hlive
        cases hlive
      · exact h.loading e (List.mem_cons_of_mem _ he) hw hlive
  · exact (cons_other (hw ▸ hwall)).mpr ((cons_other hwall).mp h)

/-- R26: the LOADING course becomes live, and the wall's next course number advances past its own. -/
theorem advance (hw : c.wall = w) (hc : c.live = false) (hw' : c'.wall = w) (hnumber : c'.number = c.number)
    (hc' : c'.live = true) (hrest : ∀ e ∈ rest, e.2.live = true) (h : NumbersFit ((k, c) :: rest) w r) :
    NumbersFit ((k, c') :: rest) w { r with nextCourse := r.nextCourse + 1 } := by
  obtain ⟨hfit, hnext, hlimit⟩ := (cons_loading hw hc).mp h
  have hbase := hfit.base
  refine ⟨Nat.le_succ_of_le hbase, Nat.succ_le_succ hlimit, ?_, fun e he _ hlive => ?_⟩
  · have hlength : r.nextCourse + 1 - r.baseCourse = (r.nextCourse - r.baseCourse) + 1 := by omega
    have hlast : r.baseCourse + 1 * (r.nextCourse - r.baseCourse) = c.number := by omega
    dsimp only
    rw [liveNumbers_cons_live hw' hc', hnumber, hlength, List.range'_concat, hlast]
    exact (hfit.live.cons _).trans (List.perm_append_singleton _ _).symm
  · rcases List.mem_cons.mp he with rfl | he
    · exact absurd (hc'.symm.trans hlive) (by simp)
    · exact absurd ((hrest e he).symm.trans hlive) (by simp)

/-- R48: the course of the lowest number retires, and the wall's base course advances past its own. -/
theorem retire {settledTop : Int} (hw : c.wall = w) (hc : c.live = true) (hnumber : c.number = r.baseCourse)
    (h : NumbersFit ((k, c) :: rest) w r) :
    NumbersFit rest w { r with settledTop := settledTop, baseCourse := c.number + 1 } := by
  have hlive := h.live
  rw [liveNumbers_cons_live hw hc] at hlive
  have hlength := hlive.length_eq
  rw [List.length_cons, List.length_range'] at hlength
  obtain ⟨n, hn⟩ : ∃ n, r.nextCourse - r.baseCourse = n + 1 := ⟨_, hlength.symm⟩
  rw [hn, List.range'_succ, hnumber] at hlive
  refine ⟨by dsimp only; omega, h.limit, ?_, fun e he => h.loading e (List.mem_cons_of_mem _ he)⟩
  have hrest : r.nextCourse - (c.number + 1) = n := by omega
  dsimp only
  rw [hrest, hnumber]
  exact hlive.cons_inv

end NumbersFit

/-! ### The changes -/

section Changes

variable {s t : State}

/-- What the numbering of a state's courses says, wall by wall. -/
def State.Numbered (s : State) : Prop :=
  (∀ e ∈ s.courses, (s.wall e.2.wall).isSome = true) ∧ ∀ w r, s.wall w = some r → NumbersFit s.courses w r

/-- A change of the walls that keeps their numbers. -/
theorem State.Numbered.of_walls (h : s.Numbered) (hcourses : t.courses = s.courses) {v : Nat} {g : Wall → Wall}
    (hwalls : ∀ w, t.wall w = if w = v then (s.wall w).map g else s.wall w)
    (hg : ∀ r, (g r).baseCourse = r.baseCourse ∧ (g r).nextCourse = r.nextCourse) : t.Numbered := by
  rw [State.Numbered, hcourses]
  refine ⟨fun e he => ?_, fun w r' hr' => ?_⟩
  · rw [hwalls]
    split
    · rw [Option.isSome_map]
      exact h.1 e he
    · exact h.1 e he
  · rw [hwalls] at hr'
    split at hr'
    · obtain ⟨r, hr, rfl⟩ := Option.map_eq_some_iff.mp hr'
      exact (h.2 w r hr).of_wall (hg r).1 (hg r).2
    · exact h.2 w r' hr'

theorem State.Numbered.congr (h : s.Numbered) (hcourses : t.courses = s.courses) (hwalls : t.walls = s.walls) :
    t.Numbered :=
  h.of_walls (v := 0) (g := id) hcourses (fun w => by rw [Option.map_id, id, ite_self, State.wall, hwalls]; rfl)
    fun _ => ⟨rfl, rfl⟩

/-- R21: only the LOADING course, which the load names, is not live. -/
theorem State.live_of_ne (hs : s.tablesCanonical) (hl : s.loadNamesLoading) {l : Load} (hload : s.load = some l)
    {e : Nat × Course} (he : e ∈ s.courses) (hne : e.1 ≠ l.entry) : e.2.live = true := by
  rw [Course.live_iff]
  intro hloading
  obtain ⟨l', hl', heq⟩ := ((loadNamesLoading_iff hs.2.2.2.2.1).mp hl e.1).mp
    ⟨e.2, Table.find_of_mem hs.2.2.2.2.1.1 he, hloading⟩
  rw [hload] at hl'
  cases hl'
  exact hne heq.symm

/-- R23, R26: the course of the load. -/
theorem State.course_of_load (hs : s.tablesCanonical) (hl : s.loadNamesLoading) {l : Load} (hload : s.load = some l) :
    ∃ c, s.course l.entry = some c ∧ c.state = .loading :=
  ((loadNamesLoading_iff hs.2.2.2.2.1).mp hl l.entry).mpr ⟨l, hload, rfl⟩

/-- R4, R5: the wall that is closed has no course. -/
theorem State.no_course_of_closable (hs : s.tablesCanonical) (hl : s.loadNamesLoading) {w : Nat} {r : Wall}
    (hpass : wallCloseRefusal w r s = none) : ∀ e ∈ s.courses, e.2.wall ≠ w := by
  intro e he hw
  have hchecks := wallCloseRefusal_firstOf w r s
  obtain ⟨hlive, hchecks⟩ := hchecks
  have hnot : ¬ ∃ e ∈ s.courses, e.2.wall = w ∧ e.2.live = true :=
    fun h => absurd ((hlive h).symm.trans hpass) (by simp)
  obtain ⟨hloading, -⟩ := hchecks hnot
  have hcourse := Table.find_of_mem hs.2.2.2.2.1.1 he
  have hstate : e.2.state = .loading := by
    by_contra h
    exact hnot ⟨e, he, hw, (Course.live_iff _).mpr h⟩
  obtain ⟨l, hload, hentry⟩ := ((loadNamesLoading_iff hs.2.2.2.2.1).mp hl e.1).mp ⟨e.2, hcourse, hstate⟩
  have hrefused := hloading ⟨l, e.2, hload, hentry ▸ hcourse, hw⟩
  exact absurd (hrefused.symm.trans hpass) (by simp)

/-- A change of the course of one entry, the rest of the courses and the walls as they were. -/
theorem State.Numbered.of_entry (h : s.Numbered) (hcourses : s.courses.Pairwise fun a b => a.1 < b.1) {k : Nat}
    {c : Course} {f : Course → Course} (hc : s.course k = some c) (hf : (f c).wall = c.wall)
    (hnumber : (f c).number = c.number) (hlive : c.live = true) (hlive' : (f c).live = true) :
    (s.updateCourse k f).Numbered := by
  have hperm := Table.perm_free hcourses hc
  have hperm' := Table.update_perm hcourses hc f
  refine ⟨fun e he => ?_, fun w r hr => ?_⟩
  · rcases List.mem_cons.mp (hperm'.mem_iff.mp he) with rfl | he
    · refine (congrArg (fun w => (s.wall w).isSome) hf).trans ?_
      exact h.1 _ (Table.mem_of_find hc)
    · exact h.1 e (List.mem_filter.mp he).1
  · exact (((h.2 w r hr).perm hperm.symm).cons_live hf hnumber hlive hlive').perm hperm'

/-- R26: the course of the load is committed. -/
theorem State.Numbered.committed (h : s.Numbered) (hs : s.tablesCanonical) (hl : s.loadNamesLoading) {l : Load}
    (hload : s.load = some l) (plans : List RunPlan) :
    (allocate s l.entry ((s.course l.entry).getD Course.blank) plans).2.Numbered := by
  obtain ⟨c, hc, hloading⟩ := State.course_of_load hs hl hload
  have hcourses := hs.2.2.2.2.1.1
  have hperm := Table.perm_free hcourses hc
  have hrest (e : Nat × Course) (he : e ∈ Table.free s.courses l.entry) : e.2.live = true := by
    obtain ⟨he, hne⟩ := List.mem_filter.mp he
    exact State.live_of_ne hs hl hload he (by simpa using hne)
  have hnotlive : c.live = false := by simp [Course.live, hloading]
  rw [hc, Option.getD_some]
  refine ⟨fun e he => ?_, fun w r' hr' => ?_⟩
  · rw [allocate_courses] at he
    rw [allocate_wall]
    suffices hold : (s.wall e.2.wall).isSome = true by split <;> simpa using hold
    rcases List.mem_cons.mp ((Table.update_perm hcourses hc _).mem_iff.mp he) with rfl | he
    · exact h.1 (l.entry, c) (Table.mem_of_find hc)
    · exact h.1 e (List.mem_filter.mp he).1
  · rw [allocate_wall] at hr'
    rw [allocate_courses]
    refine NumbersFit.perm ?_ (Table.update_perm hcourses hc _)
    split at hr'
    next hw =>
      obtain ⟨r, hr, rfl⟩ := Option.map_eq_some_iff.mp hr'
      exact ((h.2 w r hr).perm hperm.symm).advance hw.symm hnotlive hw.symm rfl rfl hrest
    next hw =>
      have hrestFit := (NumbersFit.cons_other (Ne.symm hw)).mp ((h.2 w r' hr').perm hperm.symm)
      refine (NumbersFit.cons_other ?_).mpr hrestFit
      exact Ne.symm hw

/-- R48: the course of the wall's base number is retired. -/
theorem State.Numbered.retired (h : s.Numbered) (hs : s.tablesCanonical) {entry : Nat} {c : Course} {r : Wall}
    (hr : s.wall c.wall = some r) (hc : (entry, c) ∈ s.courses) (hcomplete : c.state = .complete)
    (hlowest : r.baseCourse = c.number) : (retire s entry c).Numbered := by
  have hperm := Table.perm_free hs.2.2.2.2.1.1 (Table.find_of_mem hs.2.2.2.2.1.1 hc)
  refine ⟨fun e he => ?_, fun w r' hr' => ?_⟩
  · rw [retire_wall]
    have hold := h.1 e (List.mem_filter.mp he).1
    split <;> simpa using hold
  · rw [retire_wall] at hr'
    split at hr'
    next hw =>
      subst hw
      rw [hr, Option.map_some, Option.some.injEq] at hr'
      subst hr'
      exact NumbersFit.retire (settledTop := s.topOf c) rfl (by simp [Course.live, hcomplete]) hlowest.symm
        ((h.2 _ r hr).perm hperm.symm)
    next hw => exact (NumbersFit.cons_other (Ne.symm hw)).mp ((h.2 w r' hr').perm hperm.symm)

/-- R25: a load is opened: its course carries the wall's next course number. -/
theorem State.Numbered.opened (h : s.Numbered) {w kind profile runCount entry : Nat} {r : Wall} (hr : s.wall w = some r)
    (hlast : r.nextCourse ≠ 255) (hempty : s.course entry = none) :
    (s.openLoad w kind profile runCount entry r).Numbered := by
  have hperm := Table.put_perm (v := { state := .loading, wall := w, number := r.nextCourse, kind := kind, profile := profile
                                       baseZ := s.nextBaseZ w r profile, runCount := runCount, runIds := none : Course })
    hempty
  refine ⟨fun e he => ?_, fun v r' hr' => NumbersFit.perm ?_ hperm⟩
  · rcases List.mem_cons.mp (hperm.mem_iff.mp he) with rfl | he
    · exact Option.isSome_iff_exists.mpr ⟨r, hr⟩
    · exact h.1 e he
  · have hfit := h.2 v r' hr'
    by_cases hv : w = v
    · subst hv
      have hsame : r' = r := Option.some.inj (hr'.symm.trans hr)
      subst hsame
      exact (NumbersFit.cons_loading rfl rfl).mpr ⟨hfit, rfl, by have := hfit.limit; omega⟩
    · exact (NumbersFit.cons_other hv).mpr hfit

/-- R27, R28, R30: the load is closed without a course. -/
theorem State.Numbered.dropped (h : s.Numbered) (hs : s.tablesCanonical) (hl : s.loadNamesLoading) :
    s.dropLoad.Numbered := by
  cases hload : s.load with
  | none => simpa only [State.dropLoad, hload] using h
  | some l =>
    obtain ⟨c, hc, hloading⟩ := State.course_of_load hs hl hload
    have hperm := Table.perm_free hs.2.2.2.2.1.1 hc
    rw [State.dropLoad, hload]
    refine ⟨fun e he => h.1 e (List.mem_filter.mp he).1, fun w r hr => ?_⟩
    have hfit := (h.2 w r hr).perm hperm.symm
    by_cases hw : c.wall = w
    · exact ((NumbersFit.cons_loading hw (by simp [Course.live, hloading])).mp hfit).1
    · exact (NumbersFit.cons_other hw).mp hfit

/-- R3: a wall is opened: it has no course yet. -/
theorem State.Numbered.wallOpened (h : s.Numbered) {w : Nat} {r : Wall} (hclosed : s.wall w = none)
    (hbase : r.baseCourse = 0) (hnext : r.nextCourse = 0) :
    ({ s with walls := Table.put s.walls w r } : State).Numbered := by
  have hnone (e : Nat × Course) (he : e ∈ s.courses) : e.2.wall ≠ w := by
    intro hw
    have := h.1 e he
    rw [hw, hclosed] at this
    cases this
  refine ⟨fun e he => ?_, fun v r' hr' => ?_⟩
  · rw [State.wall, Table.find_put_other _ _ (hnone e he)]
    exact h.1 e he
  · by_cases hv : v = w
    · subst hv
      rw [State.wall, Table.find_put_same, Option.some.injEq] at hr'
      subst hr'
      refine ⟨by omega, by omega, ?_, fun e he hw => absurd hw (hnone e he)⟩
      rw [liveNumbers, List.filter_eq_nil_iff.mpr fun e he => by simp [hnone e he], hbase, hnext]
      exact .refl _
    · rw [State.wall, Table.find_put_other _ _ hv] at hr'
      exact h.2 v r' hr'

/-- R5: a wall without a course is closed. -/
theorem State.Numbered.wallClosed (h : s.Numbered) {w : Nat} {features : List (Nat × Feature)}
    (hnone : ∀ e ∈ s.courses, e.2.wall ≠ w) :
    ({ s with features := features, walls := Table.free s.walls w } : State).Numbered := by
  refine ⟨fun e he => ?_, fun v r' hr' => ?_⟩
  · rw [State.wall, Table.find_free_other _ (hnone e he)]
    exact h.1 e he
  · by_cases hv : v = w
    · rw [hv, State.wall, Table.find_free_same] at hr'
      cases hr'
    · rw [State.wall, Table.find_free_other _ hv] at hr'
      exact h.2 v r' hr'

end Changes

/-- A wall that is relinked keeps its numbers. -/
theorem State.Numbered.relinked {s : State} (h : s.Numbered) (w : Nat) (b : Option Nat) (index : Nat) :
    (s.relink w b index).Numbered :=
  h.of_walls (by rw [State.relink_frame]) (State.relink_wall s w b index) fun _ => ⟨rfl, rfl⟩

theorem RecordChange.numbered {s t : State} (h : RecordChange s t) (hs : s.tablesCanonical) (hl : s.loadNamesLoading)
    (hn : s.Numbered) : t.Numbered := by
  cases h with
  | same h => exact hn.congr (State.courses_of_records h) (State.walls_of_records h)
  | reset h =>
    refine State.Numbered.congr (s := { State.reset with pending := s.pending }) ?_ (State.courses_of_records h) (State.walls_of_records h)
    exact ⟨fun _ he => absurd he (by simp [State.reset]), fun _ _ hr => by cases hr⟩
  | wallOpened length hw hclosed => exact hn.wallOpened hclosed rfl rfl
  | wallClosed hr hpass => exact hn.wallClosed (State.no_course_of_closable hs hl hpass)
  | featureLinked => exact (hn.relinked _ _ _).congr rfl rfl
  | featureDropped => exact (hn.relinked _ _ _).congr rfl rfl
  | loadOpened hr hload hlast hentry hempty => exact hn.opened hr hlast hempty
  | committed hload hc hpass => exact hc ▸ hn.committed hs hl hload _
  | loadDropped => exact hn.dropped hs hl
  | retired hr hc hcomplete hlowest => exact hn.retired hs hr hc hcomplete hlowest
  | completed hc hall =>
    have hactive := ((s.allVerified_iff _).mp hall).1
    exact hn.of_entry hs.2.2.2.2.1.1 hc rfl rfl (by simp [Course.live, hactive]) rfl
  | lintelPlaced | kindDefined | profileDefined | runReceived | slotMoved | sightLost | runMoved | fed | delivered
  | flushed | issued | placed => exact hn.congr rfl rfl

theorem RecordChange.numbersInOrder {s t : State} (h : RecordChange s t) (hs : s.tablesCanonical)
    (hl : s.loadNamesLoading) (hn : s.numbersInOrder) : t.numbersInOrder :=
  (numbersInOrder_iff (h.tablesCanonical hs).1).mpr (h.numbered hs hl ((numbersInOrder_iff hs.1).mp hn))

/-- Settles O59: every change of the records that a step makes keeps the courses of each wall numbered in order. -/
theorem stepKeepsCourseNumbersInOrder : Obligations.StepKeepsCourseNumbersInOrder := by
  intro s t hs hl hn ht
  exact (step_keeps (P := fun s => s.tablesCanonical ∧ s.loadNamesLoading ∧ s.numbersInOrder)
    (fun _ _ h ⟨hs, hl, hn⟩ => ⟨h.tablesCanonical hs, h.loadNamesLoading hs hl, h.numbersInOrder hs hl hn⟩)
    (fun _ _ hs => hs) ⟨hs, hl, hn⟩ ht).2.2

end Sys2Proof.Machine
end

section
/-! Every change of the records keeps the feed queue in form and one slot at most in hand (05 R88, 06 R111). -/

namespace Sys2Proof.Machine

/-! ### The feed queue (R88) -/

section QueueInForm

variable {s t : State}

theorem State.queueInForm_congr (hqueue : t.queue = s.queue) (hgeneration : t.generation = s.generation)
    (h : s.queueInForm) : t.queueInForm := by
  rw [State.queueInForm, hqueue, hgeneration]
  exact h

theorem State.queueInForm_of_empty (hqueue : s.queue = []) : s.queueInForm := by
  rw [State.queueInForm, hqueue]
  exact ⟨Nat.zero_le _, nofun, nofun⟩

theorem RecordChange.queueInForm (h : RecordChange s t) (hs : s.queueInForm) : t.queueInForm := by
  obtain ⟨hlength, hgeneration, htail⟩ := id hs
  cases h with
  | same h => exact State.queueInForm_congr (State.queue_of_records h) (State.generation_of_records h) hs
  | reset h => exact State.queueInForm_of_empty (State.queue_of_records h)
  | flushed => exact State.queueInForm_of_empty rfl
  | fed id e hroom hsl hplanned hid he hfeeds =>
    refine ⟨?_, fun d hd => ?_, fun d hd => ?_⟩
    · change (s.queue ++ [e]).length ≤ queueCapacity
      rw [List.length_append]
      exact hroom
    · rcases List.mem_append.mp hd with hd | hd
      · exact hgeneration d hd
      · rw [List.mem_singleton.mp hd]
        exact he
    · change d ∈ (s.queue ++ [e]).tail at hd
      cases hqueue : s.queue with
      | nil => simp [hqueue] at hd
      | cons head rest =>
        rw [hqueue, List.cons_append, List.tail_cons] at hd
        rcases List.mem_append.mp hd with hd | hd
        · exact htail d (by rwa [hqueue])
        · rw [List.mem_singleton.mp hd]
          exact hfeeds.2.2
  | delivered hqueue =>
    rw [hqueue] at hlength hgeneration htail
    refine ⟨hlength, fun d hd => ?_, htail⟩
    rename_i e rest
    rcases List.mem_cons.mp hd with rfl | hd
    · exact hgeneration e List.mem_cons_self
    · exact hgeneration d (List.mem_cons_of_mem _ hd)
  | placed =>
    refine ⟨?_, fun d hd => hgeneration d (List.mem_of_mem_tail hd), fun d hd => htail d (List.mem_of_mem_tail hd)⟩
    change s.queue.tail.length ≤ queueCapacity
    rw [List.length_tail]
    omega
  | featureLinked => rw [State.linkFeature_frame]; exact hs
  | featureDropped => rw [State.relink_frame]; exact hs
  | committed => rw [allocate_frame]; exact hs
  | loadDropped => rw [State.dropLoad_frame]; exact hs
  | wallOpened | wallClosed | lintelPlaced | kindDefined | profileDefined | loadOpened | runReceived | retired | slotMoved
  | sightLost | runMoved | completed | issued => exact hs

end QueueInForm

/-! ### One slot in hand (R111) -/

section OneInHand

/-- How many slots are ISSUED or UNCERTAIN. -/
def handCount (slots : List (Nat × Slot)) : Nat := slots.countP fun e => e.2.state.inHand

theorem State.oneInHand_iff {s : State} : s.oneInHand ↔ handCount s.slots ≤ 1 := by
  rw [State.oneInHand, handCount, List.countP_eq_length_filter]

/-- A slot put into the table that is not in hand. -/
theorem handCount_put {slots : List (Nat × Slot)} {k : Nat} {sl : Slot} (hsl : sl.state.inHand = false) :
    handCount (Table.put slots k sl) ≤ handCount slots := by
  induction slots with
  | nil => simp [Table.put, handCount, hsl]
  | cons e slots ih =>
    obtain ⟨j, w⟩ := e
    unfold Table.put
    unfold handCount at ih ⊢
    split
    · rw [List.countP_cons_of_neg (by simp [hsl])]
    · split
      · rw [List.countP_cons_of_neg (by simp [hsl])]
        exact (List.sublist_cons_self _ _).countP_le
      · rw [List.countP_cons, List.countP_cons]
        exact Nat.add_le_add_right ih _

theorem handCount_putAll {new slots : List (Nat × Slot)} (hnew : ∀ e ∈ new, e.2.state.inHand = false) :
    handCount (Table.putAll new slots) ≤ handCount slots := by
  induction new generalizing slots with
  | nil => exact Nat.le_refl _
  | cons e new ih =>
    exact (ih fun d hd => hnew d (List.mem_cons_of_mem _ hd)).trans (handCount_put (hnew e List.mem_cons_self))

/-- Records changed so that none comes into the arm's hands. -/
theorem handCount_map {slots : List (Nat × Slot)} {g : Nat × Slot → Nat × Slot}
    (hg : ∀ e ∈ slots, (g e).2.state.inHand = true → e.2.state.inHand = true) :
    handCount (slots.map g) ≤ handCount slots := by
  rw [handCount, List.countP_map]
  exact List.countP_mono_left hg

theorem handCount_filter (slots : List (Nat × Slot)) (p : Nat × Slot → Bool) :
    handCount (slots.filter p) ≤ handCount slots := List.filter_sublist.countP_le

/-- One record changed, not into the arm's hands. -/
theorem handCount_update {slots : List (Nat × Slot)} (hslots : slots.Pairwise fun a b => a.1 < b.1) {k : Nat}
    {f : Slot → Slot} (hf : ∀ sl, Table.find slots k = some sl → (f sl).state.inHand = true → sl.state.inHand = true) :
    handCount (Table.update slots k f) ≤ handCount slots := by
  refine handCount_map fun e he => ?_
  split
  next hk => exact hf e.2 (hk ▸ Table.find_of_mem hslots he)
  · exact id

/-- R119: no slot is in hand, and one record is changed. -/
theorem handCount_issue {s : State} (hslots : s.slots.Pairwise fun a b => a.1 < b.1) (hhand : s.inHand = none) {k : Nat}
    {sl : Slot} (hsl : s.slot k = some sl) (f : Slot → Slot) : handCount (s.updateSlot k f).slots ≤ 1 := by
  have hnone : handCount (Table.free s.slots k) = 0 := by
    refine List.countP_eq_zero.mpr fun e he => ?_
    exact List.find?_eq_none.mp hhand e (List.mem_filter.mp he).1
  rw [State.updateSlot_slots, handCount, (Table.update_perm hslots hsl f).countP_eq, List.countP_cons]
  unfold handCount at hnone
  rw [hnone]
  split <;> decide

theorem handCount_unfeed (queue : List Entry) (slots : List (Nat × Slot)) :
    handCount (unfeed slots queue) ≤ handCount slots := by
  induction queue generalizing slots with
  | nil => exact Nat.le_refl _
  | cons e queue ih =>
    refine (ih (Table.update slots e.slot Slot.unfed)).trans (handCount_map fun d _ hd => ?_)
    split at hd
    · cases hd
    · exact hd

theorem handCount_retire (s : State) (entry : Nat) (c : Course) : handCount (retire s entry c).slots ≤ handCount s.slots := by
  unfold retire
  dsimp only
  split
  · exact handCount_filter _ _
  · refine (handCount_map fun e _ he => ?_).trans (handCount_filter _ _)
    split at he <;> exact he

theorem RecordChange.oneInHand {s t : State} (h : RecordChange s t) (hs : s.tablesCanonical) (hone : s.oneInHand) :
    t.oneInHand := by
  rw [State.oneInHand_iff] at hone ⊢
  have hslots := hs.2.2.2.2.2.2.1
  cases h with
  | same h => rwa [State.slots_of_records h]
  | reset h => rw [State.slots_of_records h]; exact Nat.zero_le _
  | committed =>
    rw [allocate_slots]
    refine (handCount_putAll fun e he => ?_).trans hone
    obtain ⟨_, _, _, _, _, _, _, _, _, _, _, _, rfl⟩ := mem_newSlots.mp he
    rfl
  | retired => exact (handCount_retire s _ _).trans hone
  | slotMoved f hf => exact (handCount_update hslots fun sl hsl => (hf sl hsl).hand).trans hone
  | sightLost hissued =>
    refine (handCount_update hslots fun sl hsl _ => ?_).trans hone
    have hmem := Table.find_of_mem hslots (List.mem_of_find?_eq_some hissued)
    have hstate : sl.state = .issued := by
      rw [Option.some.inj (hsl.symm.trans hmem)]
      simpa using List.find?_some (p := fun e : Nat × Slot => decide (e.2.state = .issued)) hissued
    rw [hstate]
    rfl
  | fed id e =>
    exact (handCount_update (k := id) (f := fun sl => sl.fedWith s.generation e.gauged) hslots
      fun _ _ hhand => absurd hhand Bool.false_ne_true).trans hone
  | placed id now =>
    exact (handCount_update (k := id) (f := fun sl => sl.placedAt now) hslots
      fun _ _ hhand => absurd hhand Bool.false_ne_true).trans hone
  | issued c hhand hqueue hhead hsl => exact handCount_issue hslots hhand hsl _
  | flushed => exact (handCount_unfeed _ _).trans hone
  | featureLinked => rw [State.linkFeature_frame]; exact hone
  | featureDropped => rw [State.relink_frame]; exact hone
  | loadDropped => rw [State.dropLoad_frame]; exact hone
  | wallOpened | wallClosed | lintelPlaced | kindDefined | profileDefined | loadOpened | runReceived | runMoved | completed
  | delivered => exact hone

end OneInHand

end Sys2Proof.Machine
end

section
/-! Courses, runs and slots linked, and the queue in step with the slots (02 R21, R38 to R41, 03 R46, R54, 05 R88, R89), said
through what the tables hold at an identifier, and what keeps them so. -/

namespace Sys2Proof.Machine

/-! ### The links, by identifier -/

/-- R21, R38 to R41, R46, R54: `State.RecordsLinked` of tables in their one form. -/
structure State.Linked (s : State) : Prop where
  loading : ∀ e c, s.course e = some c → c.state = .loading → c.runIds = none
  runs : ∀ e c, s.course e = some c → ∀ run i, (run, i) ∈ (c.runIds.getD []).zipIdx →
    ∃ r, s.run run = some r ∧ r.course = e ∧ r.order = i
  courseOfRun : ∀ run r, s.run run = some r → ∃ c, s.course r.course = some c ∧ run ∈ c.runIds.getD []
  slots : ∀ run r, s.run run = some r → ∀ id i, (id, i) ∈ r.slotIds.zipIdx →
    ∃ sl, s.slot id = some sl ∧ sl.run = run ∧ sl.course = r.course ∧ sl.index = i
  runOfSlot : ∀ id sl, s.slot id = some sl → ∃ r, s.run sl.run = some r ∧ id ∈ r.slotIds
  complete : ∀ e c, s.course e = some c → c.state = .complete → ∀ id sl, s.slot id = some sl → sl.course = e →
    sl.state = .verified
  cut : ∀ id sl, s.slot id = some sl → sl.closer = false → sl.cutLength = none

section Links

variable {s t : State}

theorem State.course_iff_mem (hs : s.tablesCanonical) {e : Nat} {c : Course} : s.course e = some c ↔ (e, c) ∈ s.courses :=
  ⟨Table.mem_of_find, Table.find_of_mem hs.2.2.2.2.1.1⟩

theorem State.run_iff_mem (hs : s.tablesCanonical) {run : Nat} {r : Run} : s.run run = some r ↔ (run, r) ∈ s.runs :=
  ⟨Table.mem_of_find, Table.find_of_mem hs.2.2.2.2.2.1.1⟩

theorem State.slot_iff_mem (hs : s.tablesCanonical) {id : Nat} {sl : Slot} : s.slot id = some sl ↔ (id, sl) ∈ s.slots :=
  ⟨Table.mem_of_find, Table.find_of_mem hs.2.2.2.2.2.2.1⟩

theorem State.RecordsLinked.linked (hs : s.tablesCanonical) (h : s.RecordsLinked) : s.Linked where
  loading e c hc := h.loading (e, c) ((State.course_iff_mem hs).mp hc)
  runs e c hc run i hi := h.run_at ((State.course_iff_mem hs).mp hc) hi
  courseOfRun run r hr := by
    simpa only [Option.any_eq_true, decide_eq_true_eq] using h.courseOfRun (run, r) ((State.run_iff_mem hs).mp hr)
  slots run r hr id i hi := h.slot_at hr hi
  runOfSlot id sl hsl := by
    simpa only [Option.any_eq_true, decide_eq_true_eq] using h.runOfSlot (id, sl) ((State.slot_iff_mem hs).mp hsl)
  complete e c hc hcomplete id sl hsl hcourse := by
    obtain ⟨r, c', hr, hid, hc', hrun⟩ := h.slot_listed hsl
    rw [hcourse, hc] at hc'
    cases hc'
    exact h.complete (e, c) ((State.course_iff_mem hs).mp hc) hcomplete (id, sl)
      (State.mem_courseSlots.mpr ⟨hsl, sl.run, hrun, r, hr, hid⟩)
  cut id sl hsl := h.cut (id, sl) ((State.slot_iff_mem hs).mp hsl)

theorem State.Linked.recordsLinked (hs : s.tablesCanonical) (h : s.Linked) : s.RecordsLinked where
  loading e he := h.loading e.1 e.2 ((State.course_iff_mem hs).mpr he)
  runs e he x hx := by
    simpa only [Option.any_eq_true, decide_eq_true_eq] using h.runs e.1 e.2 ((State.course_iff_mem hs).mpr he) x.1 x.2 hx
  courseOfRun e he := by
    simpa only [Option.any_eq_true, decide_eq_true_eq] using h.courseOfRun e.1 e.2 ((State.run_iff_mem hs).mpr he)
  slots e he x hx := by
    simpa only [Option.any_eq_true, decide_eq_true_eq] using h.slots e.1 e.2 ((State.run_iff_mem hs).mpr he) x.1 x.2 hx
  runOfSlot e he := by
    simpa only [Option.any_eq_true, decide_eq_true_eq] using h.runOfSlot e.1 e.2 ((State.slot_iff_mem hs).mpr he)
  complete e he hcomplete x hx := by
    obtain ⟨hsl, run, hrun, r, hr, hid⟩ := State.mem_courseSlots.mp hx
    have hc := (State.course_iff_mem hs).mpr he
    obtain ⟨i, hi⟩ := exists_mem_zipIdx hrun
    obtain ⟨r', hr', hcourse, -⟩ := h.runs e.1 e.2 hc run i hi
    obtain rfl := Option.some.inj (hr.symm.trans hr')
    obtain ⟨j, hj⟩ := exists_mem_zipIdx hid
    obtain ⟨sl', hsl', -, hslot, -⟩ := h.slots run r hr x.1 j hj
    obtain rfl := Option.some.inj (hsl.symm.trans hsl')
    exact h.complete e.1 e.2 hc hcomplete x.1 x.2 hsl (hslot.trans hcourse)
  cut e he := h.cut e.1 e.2 ((State.slot_iff_mem hs).mpr he)

/-- A slot listed by a run names it and its course. -/
theorem State.Linked.slot_names (h : s.Linked) {run id : Nat} {r : Run} {sl : Slot} (hr : s.run run = some r)
    (hid : id ∈ r.slotIds) (hsl : s.slot id = some sl) : sl.run = run ∧ sl.course = r.course := by
  obtain ⟨i, hi⟩ := exists_mem_zipIdx hid
  obtain ⟨sl', hsl', hrun, hcourse, -⟩ := h.slots run r hr id i hi
  obtain rfl := Option.some.inj (hsl.symm.trans hsl')
  exact ⟨hrun, hcourse⟩

/-- A run listed by a course names it. -/
theorem State.Linked.run_names (h : s.Linked) {e run : Nat} {c : Course} {r : Run} (hc : s.course e = some c)
    (hrun : run ∈ c.runIds.getD []) (hr : s.run run = some r) : r.course = e := by
  obtain ⟨i, hi⟩ := exists_mem_zipIdx hrun
  obtain ⟨r', hr', hcourse, -⟩ := h.runs e c hc run i hi
  obtain rfl := Option.some.inj (hr.symm.trans hr')
  exact hcourse

/-! ### What keeps the links -/

/-- A change of a slot's record that the links do not see. -/
structure Slot.Stays (a b : Slot) : Prop where
  course : b.course = a.course
  run : b.run = a.run
  index : b.index = a.index
  verified : a.state = .verified → b.state = .verified
  cut : (a.closer = false → a.cutLength = none) → b.closer = false → b.cutLength = none

theorem Slot.Stays.refl (a : Slot) : a.Stays a := ⟨rfl, rfl, rfl, id, id⟩

theorem Slot.Moves.stays {a b : Slot} (h : a.Moves b) : a.Stays b where
  course := h.course
  run := h.run
  index := h.index
  verified := h.verified
  cut hcut hb := by
    rw [h.closer] at hb
    rw [h.cut hb]
    exact hcut hb

/-- R49: other supports are a change that neither the links nor the queue see. -/
theorem Slot.moves_supports (sl : Slot) (supports : List Nat) : sl.Moves { sl with supports := supports } :=
  ⟨rfl, rfl, rfl, rfl, rfl, fun _ => rfl, id, id, rfl, fun _ => ⟨rfl, rfl, rfl⟩⟩

namespace State.Linked

/-- Changes of the slots that the links do not see. -/
theorem of_slots (h : s.Linked) (hcourses : t.courses = s.courses) (hruns : t.runs = s.runs) {g : Nat → Slot → Slot}
    (hslots : ∀ id, t.slot id = (s.slot id).map (g id)) (hg : ∀ id sl, s.slot id = some sl → sl.Stays (g id sl)) :
    t.Linked := by
  have hcourse (e : Nat) : t.course e = s.course e := by rw [State.course, hcourses]; rfl
  have hrun (run : Nat) : t.run run = s.run run := by rw [State.run, hruns]; rfl
  have hback {id : Nat} {sl' : Slot} (hsl' : t.slot id = some sl') : ∃ sl, s.slot id = some sl ∧ sl.Stays sl' := by
    rw [hslots] at hsl'
    obtain ⟨sl, hsl, rfl⟩ := Option.map_eq_some_iff.mp hsl'
    exact ⟨sl, hsl, hg id sl hsl⟩
  constructor
  case loading => simpa only [hcourse] using h.loading
  case runs => simpa only [hcourse, hrun] using h.runs
  case courseOfRun => simpa only [hcourse, hrun] using h.courseOfRun
  case slots =>
    intro run r hr id i hi
    rw [hrun] at hr
    obtain ⟨sl, hsl, hslrun, hslcourse, hindex⟩ := h.slots run r hr id i hi
    have hstays := hg id sl hsl
    exact ⟨_, by rw [hslots, hsl]; rfl, hstays.run.trans hslrun, hstays.course.trans hslcourse,
      hstays.index.trans hindex⟩
  case runOfSlot =>
    intro id sl' hsl'
    obtain ⟨sl, hsl, hstays⟩ := hback hsl'
    rw [hrun, hstays.run]
    exact h.runOfSlot id sl hsl
  case complete =>
    intro e c hc hcomplete id sl' hsl' hslcourse
    obtain ⟨sl, hsl, hstays⟩ := hback hsl'
    rw [hcourse] at hc
    exact hstays.verified (h.complete e c hc hcomplete id sl hsl (hstays.course.symm.trans hslcourse))
  case cut =>
    intro id sl' hsl'
    obtain ⟨sl, hsl, hstays⟩ := hback hsl'
    exact hstays.cut (h.cut id sl hsl)

theorem congr (h : s.Linked) (hcourses : t.courses = s.courses) (hruns : t.runs = s.runs) (hslots : t.slots = s.slots) :
    t.Linked :=
  h.of_slots hcourses hruns (g := fun _ => id) (fun id => by rw [Option.map_id, State.slot, hslots]; rfl)
    fun _ sl _ => .refl sl

/-- R107, R126, R127: a run is changed in what the links do not see. -/
theorem runMoved (h : s.Linked) {k : Nat} {f : Run → Run} (hf : ∀ r : Run, r.Moves (f r)) : (s.updateRun k f).Linked := by
  have hrun (run : Nat) : (s.updateRun k f).run run = if run = k then (s.run run).map f else s.run run :=
    Table.find_update _ _ _ _
  have hforward {run : Nat} {r : Run} (hr : s.run run = some r) :
      ∃ r', (s.updateRun k f).run run = some r' ∧ r.Moves r' := by
    rw [hrun, hr]
    split
    · exact ⟨f r, rfl, hf r⟩
    · exact ⟨r, rfl, rfl, rfl, rfl⟩
  have hback {run : Nat} {r' : Run} (hr' : (s.updateRun k f).run run = some r') : ∃ r, s.run run = some r ∧ r.Moves r' := by
    rw [hrun] at hr'
    split at hr'
    · obtain ⟨r, hr, rfl⟩ := Option.map_eq_some_iff.mp hr'
      exact ⟨r, hr, hf r⟩
    · exact ⟨r', hr', rfl, rfl, rfl⟩
  constructor
  case loading => exact h.loading
  case runs =>
    intro e c hc run i hi
    obtain ⟨r, hr, hcourse, horder⟩ := h.runs e c hc run i hi
    obtain ⟨r', hr', hmoves⟩ := hforward hr
    exact ⟨r', hr', hmoves.course.trans hcourse, hmoves.order.trans horder⟩
  case courseOfRun =>
    intro run r' hr'
    obtain ⟨r, hr, hmoves⟩ := hback hr'
    rw [hmoves.course]
    exact h.courseOfRun run r hr
  case slots =>
    intro run r' hr' id i hi
    obtain ⟨r, hr, hmoves⟩ := hback hr'
    rw [hmoves.course]
    rw [hmoves.slotIds] at hi
    exact h.slots run r hr id i hi
  case runOfSlot =>
    intro id sl hsl
    obtain ⟨r, hr, hid⟩ := h.runOfSlot id sl hsl
    obtain ⟨r', hr', hmoves⟩ := hforward hr
    exact ⟨r', hr', hmoves.slotIds ▸ hid⟩
  case complete => exact h.complete
  case cut => exact h.cut

/-- Changes of the courses that keep the run ids: a course without runs may come or go, and one may become COMPLETE when
its slots are VERIFIED. -/
theorem of_courses (h : s.Linked) (hruns : t.runs = s.runs) (hslots : t.slots = s.slots)
    (hforward : ∀ e c, s.course e = some c → c.runIds ≠ none → ∃ c', t.course e = some c' ∧ c'.runIds = c.runIds)
    (hback : ∀ e c', t.course e = some c' → (c'.runIds = none ∧ c'.state = .loading) ∨
      ∃ c, s.course e = some c ∧ c'.runIds = c.runIds ∧ (c'.state = .loading → c.state = .loading) ∧
        (c'.state = .complete → ∀ id sl, s.slot id = some sl → sl.course = e → sl.state = .verified)) : t.Linked := by
  have hrun (run : Nat) : t.run run = s.run run := by rw [State.run, hruns]; rfl
  have hslot (id : Nat) : t.slot id = s.slot id := by rw [State.slot, hslots]; rfl
  constructor
  case loading =>
    intro e c' hc' hloading
    rcases hback e c' hc' with ⟨hnone, -⟩ | ⟨c, hc, hids, hstate, -⟩
    · exact hnone
    · exact hids.trans (h.loading e c hc (hstate hloading))
  case runs =>
    intro e c' hc' run i hi
    rw [hrun]
    rcases hback e c' hc' with ⟨hnone, -⟩ | ⟨c, hc, hids, -⟩
    · simp [hnone] at hi
    · exact h.runs e c hc run i (hids ▸ hi)
  case courseOfRun =>
    intro run r hr
    rw [hrun] at hr
    obtain ⟨c, hc, hmem⟩ := h.courseOfRun run r hr
    obtain ⟨c', hc', hids⟩ := hforward r.course c hc fun hnone => by simp [hnone] at hmem
    exact ⟨c', hc', hids ▸ hmem⟩
  case slots => simpa only [hrun, hslot] using h.slots
  case runOfSlot => simpa only [hrun, hslot] using h.runOfSlot
  case complete =>
    intro e c' hc' hcomplete id sl hsl hcourse
    rw [hslot] at hsl
    rcases hback e c' hc' with ⟨-, hloading⟩ | ⟨c, hc, -, -, hall⟩
    · rw [hcomplete] at hloading
      cases hloading
    · exact hall hcomplete id sl hsl hcourse
  case cut => simpa only [hslot] using h.cut

/-- R25: a LOADING course takes an EMPTY entry. -/
theorem loadOpened (h : s.Linked) {w kind profile runCount entry : Nat} {r : Wall} (hempty : s.course entry = none) :
    (s.openLoad w kind profile runCount entry r).Linked := by
  have hother {e : Nat} (he : e ≠ entry) : (s.openLoad w kind profile runCount entry r).course e = s.course e :=
    Table.find_put_other _ _ he
  refine h.of_courses rfl rfl (fun e c hc _ => ⟨c, ?_, rfl⟩) fun e c' hc' => ?_
  · rw [hother (fun he => by rw [he, hempty] at hc; cases hc), hc]
  · by_cases he : e = entry
    · have hnew := he ▸ hc'
      rw [State.openLoad, State.course, Table.find_put_same] at hnew
      cases hnew
      exact .inl ⟨rfl, rfl⟩
    · rw [hother he] at hc'
      exact .inr ⟨c', hc', rfl, id, h.complete e c' hc'⟩

/-- R27, R28, R30: the LOADING course goes. -/
theorem loadDropped (h : s.Linked) (hs : s.tablesCanonical) (hl : s.loadNamesLoading) : s.dropLoad.Linked := by
  refine h.of_courses (by rw [State.dropLoad_frame]) (by rw [State.dropLoad_frame]) (fun e c hc hids => ⟨c, ?_, rfl⟩)
    fun e c' hc' => ?_
  · rw [State.dropLoad_course, if_neg, hc]
    intro hnames
    obtain ⟨l, hload, he⟩ := Option.any_eq_true _ _ |>.mp hnames
    obtain ⟨c', hc', hloading⟩ := State.course_of_load hs hl hload
    rw [of_decide_eq_true he, hc] at hc'
    cases hc'
    exact hids (h.loading e c hc hloading)
  · rw [State.dropLoad_course] at hc'
    split at hc'
    · cases hc'
    · exact .inr ⟨c', hc', rfl, id, h.complete e c' hc'⟩

/-- R46: an ACTIVE course becomes COMPLETE. -/
theorem completed (h : s.Linked) {entry : Nat} {c : Course} (hc : s.course entry = some c) (hall : s.allVerified c) :
    (s.updateCourse entry fun c => { c with state := .complete }).Linked := by
  refine h.of_courses rfl rfl (fun e d hd _ => ?_) fun e d' hd' => ?_
  · rw [State.updateCourse_course, hd]
    split
    · exact ⟨_, rfl, rfl⟩
    · exact ⟨_, rfl, rfl⟩
  · rw [State.updateCourse_course] at hd'
    split at hd'
    next he =>
      subst he
      rw [hc, Option.map_some, Option.some.injEq] at hd'
      subst hd'
      refine .inr ⟨c, hc, rfl, nofun, fun _ id sl hsl hcourse => ?_⟩
      obtain ⟨r, hr, hid⟩ := h.runOfSlot id sl hsl
      obtain ⟨c', hc', hrun⟩ := h.courseOfRun sl.run r hr
      obtain ⟨-, hnames⟩ := h.slot_names hr hid hsl
      rw [← hnames, hcourse, hc] at hc'
      cases hc'
      exact hall.2 (id, sl) (State.mem_courseSlots.mpr ⟨hsl, sl.run, hrun, r, hr, hid⟩)
    next he => exact .inr ⟨d', hd', rfl, id, h.complete e d' hd'⟩

/-- R180: nothing is linked where nothing is held. -/
theorem of_empty (hcourses : s.courses = []) (hruns : s.runs = []) (hslots : s.slots = []) : s.Linked := by
  have hcourse (e : Nat) (c : Course) : s.course e ≠ some c := by rw [State.course, hcourses]; exact nofun
  have hrun (run : Nat) (r : Run) : s.run run ≠ some r := by rw [State.run, hruns]; exact nofun
  have hslot (id : Nat) (sl : Slot) : s.slot id ≠ some sl := by rw [State.slot, hslots]; exact nofun
  constructor
  case loading | runs | complete => exact fun e c hc => absurd hc (hcourse e c)
  case courseOfRun | slots => exact fun run r hr => absurd hr (hrun run r)
  case runOfSlot | cut => exact fun id sl hsl => absurd hsl (hslot id sl)

/-! ### Retirement (R48, R49) -/

section Retire

variable {entry : Nat} {c : Course} (h : s.Linked) (hc : s.course entry = some c)
include h hc

theorem run_kept {run : Nat} {r : Run} (hr : s.run run = some r) : run ∈ c.runIds.getD [] ↔ r.course = entry := by
  refine ⟨fun hmem => h.run_names hc hmem hr, fun hcourse => ?_⟩
  obtain ⟨c', hc', hmem⟩ := h.courseOfRun run r hr
  rw [hcourse, hc] at hc'
  cases hc'
  exact hmem

theorem slot_kept {id : Nat} {sl : Slot} (hsl : s.slot id = some sl) :
    id ∈ (s.courseSlots c).map Prod.fst ↔ sl.course = entry := by
  obtain ⟨r, hr, hid⟩ := h.runOfSlot id sl hsl
  obtain ⟨-, hcourse⟩ := h.slot_names hr hid hsl
  rw [List.mem_map]
  constructor
  · rintro ⟨x, hx, rfl⟩
    obtain ⟨-, run, hrun, r', hr', hid'⟩ := State.mem_courseSlots.mp hx
    rw [(h.slot_names hr' hid' hsl).2]
    exact h.run_names hc hrun hr'
  · intro heq
    exact ⟨(id, sl), State.mem_courseSlots.mpr
      ⟨hsl, sl.run, (h.run_kept hc hr).mpr (hcourse.symm.trans heq), r, hr, hid⟩, rfl⟩

theorem retire_slot_back {id : Nat} {sl' : Slot} :
    (retire s entry c).slot id = some sl' → ∃ sl, s.slot id = some sl ∧ sl.course ≠ entry ∧ sl.Moves sl' := by
  rw [retire_slot]
  split
  · exact nofun
  next hid =>
    intro hsl'
    obtain ⟨sl, hsl, rfl⟩ := Option.map_eq_some_iff.mp hsl'
    refine ⟨sl, hsl, fun hcourse => hid ((h.slot_kept hc hsl).mpr hcourse), ?_⟩
    split
    · exact sl.moves_supports _
    · exact sl.moves_supports sl.supports

theorem retire_slot_stays {id : Nat} {sl : Slot} (hsl : s.slot id = some sl) (hne : sl.course ≠ entry) :
    ∃ sl', (retire s entry c).slot id = some sl' ∧ sl.Moves sl' := by
  rw [retire_slot, if_neg (mt (h.slot_kept hc hsl).mp hne), hsl]
  refine ⟨_, rfl, ?_⟩
  dsimp only
  split
  · exact sl.moves_supports _
  · exact sl.moves_supports sl.supports

theorem retired : (retire s entry c).Linked := by
  have hrunBack {run : Nat} {r : Run} (hr : (retire s entry c).run run = some r) :
      s.run run = some r ∧ r.course ≠ entry := by
    rw [retire_run] at hr
    split at hr
    · cases hr
    next hmem => exact ⟨hr, fun hcourse => hmem ((h.run_kept hc hr).mpr hcourse)⟩
  have hrunStays {run : Nat} {r : Run} (hr : s.run run = some r) (hne : r.course ≠ entry) :
      (retire s entry c).run run = some r := by
    rw [retire_run, if_neg (mt (h.run_kept hc hr).mp hne), hr]
  have hcourseBack {e : Nat} {d : Course} (hd : (retire s entry c).course e = some d) :
      s.course e = some d ∧ e ≠ entry := by
    have he : e ≠ entry := by
      rintro rfl
      rw [retire_course_same] at hd
      cases hd
    rw [retire_course_other _ _ _ he] at hd
    exact ⟨hd, he⟩
  constructor
  case loading =>
    intro e d hd
    exact h.loading e d (hcourseBack hd).1
  case runs =>
    intro e d hd run i hi
    obtain ⟨hd, he⟩ := hcourseBack hd
    obtain ⟨r, hr, hcourse, horder⟩ := h.runs e d hd run i hi
    exact ⟨r, hrunStays hr (hcourse ▸ he), hcourse, horder⟩
  case courseOfRun =>
    intro run r hr
    obtain ⟨hr, hne⟩ := hrunBack hr
    rw [retire_course_other _ _ _ hne]
    exact h.courseOfRun run r hr
  case slots =>
    intro run r hr id i hi
    obtain ⟨hr, hne⟩ := hrunBack hr
    obtain ⟨sl, hsl, hslrun, hslcourse, hindex⟩ := h.slots run r hr id i hi
    obtain ⟨sl', hsl', hmoves⟩ := h.retire_slot_stays hc hsl (hslcourse ▸ hne)
    exact ⟨sl', hsl', hmoves.run.trans hslrun, hmoves.course.trans hslcourse, hmoves.index.trans hindex⟩
  case runOfSlot =>
    intro id sl' hsl'
    obtain ⟨sl, hsl, hne, hmoves⟩ := h.retire_slot_back hc hsl'
    obtain ⟨r, hr, hid⟩ := h.runOfSlot id sl hsl
    obtain ⟨-, hcourse⟩ := h.slot_names hr hid hsl
    rw [hmoves.run]
    exact ⟨r, hrunStays hr (hcourse ▸ hne), hid⟩
  case complete =>
    intro e d hd hcomplete id sl' hsl' hslcourse
    obtain ⟨sl, hsl, -, hmoves⟩ := h.retire_slot_back hc hsl'
    exact hmoves.verified
      (h.complete e d (hcourseBack hd).1 hcomplete id sl hsl (hmoves.course.symm.trans hslcourse))
  case cut =>
    intro id sl' hsl'
    obtain ⟨sl, hsl, -, hmoves⟩ := h.retire_slot_back hc hsl'
    exact hmoves.stays.cut (h.cut id sl hsl)

end Retire

end State.Linked

end Links

end Sys2Proof.Machine
end

section
/-! What a commit that passes its seven checks allocates (02 R30, R33, R38 to R41): enough free ids, the runs in run order and
the slots by index, and so the links. -/

namespace Sys2Proof.Machine

/-! ### What the checks say of the plans -/

/-- A run's place in the course and the indices of its slots, which the support check does not change. -/
def RunPlan.frame (p : RunPlan) : Nat × (Int × Int) × List Nat := (p.order, (p.start, p.stop), p.slots.map SlotPlan.index)

/-- R38, R39: a planned run is that of its run order, and its slots stand by index from 0. -/
structure RunPlan.InPlace (p : RunPlan) (i : Nat) (run : Int × Int) : Prop where
  order : p.order = i
  span : run = (p.start, p.stop)
  index : p.slots.map SlotPlan.index = List.range p.slots.length

theorem RunPlan.InPlace.of_frame {p q : RunPlan} {i : Nat} {run : Int × Int} (h : p.InPlace i run)
    (hframe : q.frame = p.frame) : q.InPlace i run := by
  obtain ⟨horder, hrest⟩ := Prod.ext_iff.mp hframe
  obtain ⟨hspan, hindex⟩ := Prod.ext_iff.mp hrest
  dsimp only [RunPlan.frame] at horder hspan hindex
  have hlength := congrArg List.length hindex
  rw [List.length_map, List.length_map] at hlength
  exact ⟨horder.trans h.order, h.span.trans hspan.symm, hindex.trans (hlength ▸ h.index)⟩

theorem planSlots_index (k : Kind) (closer : Option Int) (b e : Int) (i m : Nat) (x : Int) :
    (planSlots k closer b e i m x).map SlotPlan.index = List.range' i m := by
  induction m generalizing i x with
  | zero => rfl
  | succ m ih => rw [planSlots, List.map_cons, ih, List.range'_succ]

theorem planSlots_length (k : Kind) (closer : Option Int) (b e : Int) (i m : Nat) (x : Int) :
    (planSlots k closer b e i m x).length = m := by
  have h := congrArg List.length (planSlots_index k closer b e i m x)
  rwa [List.length_map, List.length_range'] at h

/-- A check that does not refuse. -/
theorem ok_of_unless {ε α : Type} {p : Prop} [Decidable p] {e : ε} {x : Except ε α} {a : α}
    (h : (if p then .error e else x) = .ok a) : ¬ p ∧ x = .ok a := by
  split at h
  · cases h
  · exact ⟨‹_›, h⟩

/-- A check that refuses, or the checks after it. -/
theorem error_of_unless {ε α : Type} {p : Prop} [Decidable p] {e r : ε} {x : Except ε α}
    (h : (if p then .error e else x) = .error r) : (p ∧ r = e) ∨ (¬ p ∧ x = .error r) := by
  split at h
  · cases h
    exact .inl ⟨‹_›, rfl⟩
  · exact .inr ⟨‹_›, h⟩

theorem solveRun_inPlace {k : Kind} {p : Profile} {q : Int} {saw : Bool} {order : Nat} {start stop : Int} {plan : RunPlan}
    (h : solveRun k p q saw order start stop = .ok plan) : plan.InPlace order (start, stop) := by
  unfold solveRun at h
  dsimp only at h
  split at h
  · cases h
  next n closer _ =>
    obtain ⟨-, h⟩ := ok_of_unless h
    obtain ⟨-, h⟩ := ok_of_unless h
    obtain ⟨-, h⟩ := ok_of_unless h
    cases h
    exact ⟨rfl, rfl, by rw [planSlots_index, planSlots_length, List.range_eq_range']⟩

/-- R34 to R38: the plans of the solve stand for the runs received, in run order. -/
theorem solveRuns_inPlace {k : Kind} {p : Profile} {q : Int} {saw : Bool} {order : Nat} {runs : List (Int × Int)}
    {plans : List RunPlan} (h : solveRuns k p q saw order runs = .ok plans) :
    plans.length = runs.length ∧
      ∀ (i : Nat) (plan : RunPlan), plans[i]? = some plan →
        ∃ run, runs[i]? = some run ∧ plan.InPlace (order + i) run := by
  induction runs generalizing order plans with
  | nil =>
    cases h
    exact ⟨rfl, fun _ _ hi => by simp at hi⟩
  | cons run runs ih =>
    obtain ⟨start, stop⟩ := run
    unfold solveRuns at h
    split at h
    · cases h
    next first hfirst =>
      split at h
      · cases h
      next rest hrest =>
        cases h
        obtain ⟨hlength, hplaces⟩ := ih hrest
        refine ⟨congrArg Nat.succ hlength, fun i plan hi => ?_⟩
        cases i with
        | zero =>
          cases hi
          exact ⟨_, rfl, solveRun_inPlace hfirst⟩
        | succ i =>
          obtain ⟨run, hrun, hplace⟩ := hplaces i plan hi
          exact ⟨run, hrun, by rwa [Nat.add_assoc, Nat.add_comm 1 i] at hplace⟩

theorem supportSlot_index {bed : Bed} {order : Nat} {p q : SlotPlan} (h : supportSlot bed order p = .ok q) :
    q.index = p.index := by
  unfold supportSlot at h
  dsimp only at h
  split at h
  · cases h
  · split at h
    · cases h; rfl
    · split at h
      · cases h; rfl
      · cases h

theorem supportSlots_index {bed : Bed} {order : Nat} {ps qs : List SlotPlan} (h : supportSlots bed order ps = .ok qs) :
    qs.map SlotPlan.index = ps.map SlotPlan.index := by
  induction ps generalizing qs with
  | nil => cases h; rfl
  | cons p ps ih =>
    unfold supportSlots at h
    split at h
    · cases h
    next q hq =>
      split at h
      · cases h
      next rest hrest =>
        cases h
        rw [List.map_cons, List.map_cons, supportSlot_index hq, ih hrest]

theorem supportRuns_frame {bed : Bed} {plans supported : List RunPlan} (h : supportRuns bed plans = .ok supported) :
    supported.map RunPlan.frame = plans.map RunPlan.frame := by
  induction plans generalizing supported with
  | nil => cases h; rfl
  | cons p plans ih =>
    unfold supportRuns at h
    split at h
    · cases h
    next slots hslots =>
      split at h
      · cases h
      next rest hrest =>
        cases h
        rw [List.map_cons, List.map_cons, ih hrest, RunPlan.frame, RunPlan.frame, supportSlots_index hslots]

theorem bedChecks_frame {s : State} {r : Wall} {c : Course} {plans supported : List RunPlan}
    (h : bedChecks s r c plans = .ok supported) : supported.map RunPlan.frame = plans.map RunPlan.frame := by
  unfold bedChecks at h
  split at h
  · cases h; rfl
  · split at h
    · cases h
    next hsupport =>
      split at h
      · cases h
      · cases h
        exact supportRuns_frame hsupport

theorem totalSlots_of_frame {plans plans' : List RunPlan} (h : plans'.map RunPlan.frame = plans.map RunPlan.frame) :
    totalSlots plans' = totalSlots plans := by
  have hlengths (l : List RunPlan) : totalSlots l = ((l.map RunPlan.frame).map fun x => x.2.2.length).sum := by
    rw [List.map_map]
    exact congrArg List.sum (List.map_congr_left fun p _ => (List.length_map _).symm)
  rw [hlengths, hlengths, h]

/-- R30: what a commit that passes has passed. -/
theorem commitChecks_ok {s : State} {r : Wall} {c : Course} {runs : List (Int × Int)} {plans : List RunPlan}
    (h : commitChecks s r c runs = .ok plans) :
    checkRunEntries s runs = none ∧ ∃ solved,
      solveRuns (s.kind c.kind) (s.profile c.profile) s.params.sawStep s.sawFitted 0 runs = .ok solved ∧
        checkSlotEntries s solved = none ∧ bedChecks s r c solved = .ok plans := by
  unfold commitChecks at h
  split at h
  · cases h
  next hentries =>
    split at h
    · cases h
    · split at h
      · cases h
      · split at h
        · cases h
        next solved hsolved =>
          split at h
          · cases h
          next hslots => exact ⟨hentries, solved, hsolved, hslots, h⟩

/-- R30, R33: what the allocation of a commit that passes rests on. -/
structure State.Allocates (s : State) (runs : List (Int × Int)) (plans : List RunPlan) : Prop where
  count : plans.length = runs.length
  places : ∀ (i : Nat) (plan : RunPlan), plans[i]? = some plan → ∃ run, runs[i]? = some run ∧ plan.InPlace i run
  runIds : (s.freeRuns plans).length = plans.length
  slotIds : (s.freeSlots plans).length = totalSlots plans

theorem State.allocates {s : State} (hs : s.tablesCanonical) {r : Wall} {c : Course} {runs : List (Int × Int)}
    {plans : List RunPlan} (h : commitChecks s r c runs = .ok plans) : s.Allocates runs plans := by
  obtain ⟨hentries, solved, hsolved, hslots, hbed⟩ := commitChecks_ok h
  obtain ⟨hcount, hplaces⟩ := solveRuns_inPlace hsolved
  have hframe := bedChecks_frame hbed
  have hlength : plans.length = solved.length := by simpa using congrArg List.length hframe
  have hruns := Table.length_unused (count := runCapacity) (lo := 0) (by simpa using hs.2.2.2.2.2.1)
  have hfree := Table.length_unused (count := slotCapacity) (lo := 0) (by simpa using hs.2.2.2.2.2.2)
  constructor
  case count => omega
  case places =>
    intro i plan hi
    have hi' := congrArg (fun l => l[i]?) hframe
    simp only [List.getElem?_map, hi, Option.map_some] at hi'
    obtain ⟨first, hfirst, hsame⟩ := Option.map_eq_some_iff.mp hi'.symm
    obtain ⟨run, hrun, hplace⟩ := hplaces i first hfirst
    rw [Nat.zero_add] at hplace
    exact ⟨run, hrun, hplace.of_frame hsame.symm⟩
  case runIds =>
    unfold checkRunEntries at hentries
    dsimp only at hentries
    split at hentries
    · cases hentries
    · rw [State.freeRuns, List.length_take]
      omega
  case slotIds =>
    unfold checkSlotEntries at hslots
    dsimp only at hslots
    split at hslots
    · cases hslots
    · rw [State.freeSlots, List.length_take, totalSlots_of_frame hframe]
      omega

/-! ### What the allocation leaves -/

/-- A place in one of two lists of one length is a place in the other. -/
theorem exists_getElem?_of_length {α β : Type} {l : List α} {l' : List β} {i : Nat} {a : α}
    (hlength : l'.length = l.length) (h : l[i]? = some a) : ∃ b, l'[i]? = some b := by
  obtain ⟨hlt, -⟩ := List.getElem?_eq_some_iff.mp h
  exact ⟨_, List.getElem?_eq_getElem (hlength ▸ hlt)⟩

theorem Table.unused_pairwise {α : Type} (t : List (Nat × α)) (first count : Nat) :
    (Table.unused t first count).Pairwise (· < ·) :=
  List.Pairwise.filter _ List.pairwise_lt_range'

section Allocated

variable {s : State} {entry : Nat} {c : Course} {runs : List (Int × Int)} {plans : List RunPlan}

theorem State.freeRuns_pairwise : (s.freeRuns plans).Pairwise (· < ·) :=
  (Table.unused_pairwise _ _ _).sublist (List.take_sublist _ _)

theorem State.freeSlots_pairwise : (s.freeSlots plans).Pairwise (· < ·) :=
  (Table.unused_pairwise _ _ _).sublist (List.take_sublist _ _)

theorem State.run_of_free {run : Nat} (h : run ∈ s.freeRuns plans) : s.run run = none :=
  (Table.mem_unused (List.mem_of_mem_take h)).2.2

theorem State.slot_of_free {id : Nat} (h : id ∈ s.freeSlots plans) : s.slot id = none :=
  (Table.mem_unused (List.mem_of_mem_take h)).2.2

variable (h : s.Allocates runs plans)
include h

theorem State.Allocates.runs_keys :
    (newRuns entry plans (s.freeRuns plans) (s.freeSlots plans)).map Prod.fst = s.freeRuns plans :=
  newRuns_keys h.runIds

theorem State.Allocates.slots_keys (kind : Nat) :
    (newSlots entry kind plans (s.freeRuns plans) (s.freeSlots plans)).map Prod.fst = s.freeSlots plans :=
  newSlots_keys h.runIds h.slotIds

/-- R39: a run of the committed course, new; every other run as it was. -/
theorem State.Allocates.run_new {i : Nat} {p : RunPlan} {run : Nat} {mine : List Nat} (hp : plans[i]? = some p)
    (hrun : (s.freeRuns plans)[i]? = some run) (hmine : (shares plans (s.freeSlots plans))[i]? = some mine) :
    (allocate s entry c plans).2.run run = some (p.record entry mine) := by
  rw [State.run, allocate_runs]
  refine Table.find_putAll_same ?_ (mem_newRuns.mpr ⟨i, p, run, mine, hp, hrun, hmine, rfl⟩)
  rw [h.runs_keys]
  exact State.freeRuns_pairwise.imp Nat.ne_of_lt

theorem State.Allocates.slot_new {i : Nat} {p : RunPlan} {run : Nat} {mine : List Nat} {j : Nat} {q : SlotPlan} {id : Nat}
    (hp : plans[i]? = some p) (hrun : (s.freeRuns plans)[i]? = some run)
    (hmine : (shares plans (s.freeSlots plans))[i]? = some mine) (hq : p.slots[j]? = some q) (hid : mine[j]? = some id) :
    (allocate s entry c plans).2.slot id = some (q.record entry run c.kind) := by
  rw [State.slot, allocate_slots]
  refine Table.find_putAll_same ?_ (mem_newSlots.mpr ⟨i, p, run, mine, j, q, id, hp, hrun, hmine, hq, hid, rfl⟩)
  rw [h.slots_keys]
  exact State.freeSlots_pairwise.imp Nat.ne_of_lt

theorem State.Allocates.run_old {run : Nat} {r : Run} (hr : s.run run = some r) :
    (allocate s entry c plans).2.run run = some r := by
  rw [State.run, allocate_runs, Table.find_putAll_other, ← hr]
  · rfl
  · rw [h.runs_keys]
    intro hmem
    rw [State.run_of_free hmem] at hr
    cases hr

theorem State.Allocates.slot_old {id : Nat} {sl : Slot} (hsl : s.slot id = some sl) :
    (allocate s entry c plans).2.slot id = some sl := by
  rw [State.slot, allocate_slots, Table.find_putAll_other, ← hsl]
  · rfl
  · rw [h.slots_keys]
    intro hmem
    rw [State.slot_of_free hmem] at hsl
    cases hsl

/-- R39, R40: a run after the commit is an old one or one of the course. -/
theorem State.Allocates.run_cases {run : Nat} {r : Run} (hr : (allocate s entry c plans).2.run run = some r) :
    s.run run = some r ∨ ∃ (i : Nat) (p : RunPlan) (mine : List Nat), plans[i]? = some p ∧
      (s.freeRuns plans)[i]? = some run ∧ (shares plans (s.freeSlots plans))[i]? = some mine ∧ r = p.record entry mine := by
  by_cases hnew : run ∈ (newRuns entry plans (s.freeRuns plans) (s.freeSlots plans)).map Prod.fst
  · obtain ⟨e, he, rfl⟩ := List.mem_map.mp hnew
    obtain ⟨i, p, run, mine, hp, hrun, hmine, rfl⟩ := mem_newRuns.mp he
    rw [h.run_new hp hrun hmine, Option.some.injEq] at hr
    exact .inr ⟨i, p, mine, hp, hrun, hmine, hr.symm⟩
  · rw [State.run, allocate_runs, Table.find_putAll_other hnew] at hr
    exact .inl hr

/-- R39, R41: a slot after the commit is an old one or one of the course. -/
theorem State.Allocates.slot_cases {id : Nat} {sl : Slot} (hsl : (allocate s entry c plans).2.slot id = some sl) :
    s.slot id = some sl ∨ ∃ (i : Nat) (p : RunPlan) (run : Nat) (mine : List Nat) (j : Nat) (q : SlotPlan),
      plans[i]? = some p ∧ (s.freeRuns plans)[i]? = some run ∧ (shares plans (s.freeSlots plans))[i]? = some mine ∧
        p.slots[j]? = some q ∧ mine[j]? = some id ∧ sl = q.record entry run c.kind := by
  by_cases hnew : id ∈ (newSlots entry c.kind plans (s.freeRuns plans) (s.freeSlots plans)).map Prod.fst
  · obtain ⟨e, he, rfl⟩ := List.mem_map.mp hnew
    obtain ⟨i, p, run, mine, j, q, id, hp, hrun, hmine, hq, hid, rfl⟩ := mem_newSlots.mp he
    rw [h.slot_new hp hrun hmine hq hid, Option.some.injEq] at hsl
    exact .inr ⟨i, p, run, mine, j, q, hp, hrun, hmine, hq, hid, hsl.symm⟩
  · rw [State.slot, allocate_slots, Table.find_putAll_other hnew] at hsl
    exact .inl hsl

omit h in
theorem RunPlan.InPlace.slot_index {p : RunPlan} {i : Nat} {run : Int × Int} (hplace : p.InPlace i run) {j : Nat}
    {q : SlotPlan} (hq : p.slots[j]? = some q) : q.index = j := by
  have hj := congrArg (fun l => l[j]?) hplace.index
  obtain ⟨hlt, -⟩ := List.getElem?_eq_some_iff.mp hq
  simpa only [List.getElem?_map, hq, Option.map_some, List.getElem?_range hlt, Option.some.injEq] using hj

/-- R21, R38 to R41: the committed course is linked with its runs and slots. -/
theorem State.Linked.committed (hlinked : s.Linked) {d : Course} (hd : s.course entry = some d)
    (hloading : d.state = .loading) : (allocate s entry c plans).2.Linked := by
  have hnoRuns := hlinked.loading entry d hd hloading
  have hotherRun {run : Nat} {r : Run} (hr : s.run run = some r) : r.course ≠ entry := by
    intro heq
    obtain ⟨d', hd', hmem⟩ := hlinked.courseOfRun run r hr
    rw [heq, hd] at hd'
    cases hd'
    simp [hnoRuns] at hmem
  have hcourseBack {e : Nat} {d' : Course} (hd' : (allocate s entry c plans).2.course e = some d') :
      (e = entry ∧ d'.state = .active ∧ d'.runIds = some (s.freeRuns plans)) ∨ (e ≠ entry ∧ s.course e = some d') := by
    rw [allocate_course] at hd'
    split at hd'
    next he =>
      obtain ⟨_, _, rfl⟩ := Option.map_eq_some_iff.mp hd'
      exact .inl ⟨he, rfl, rfl⟩
    next he => exact .inr ⟨he, hd'⟩
  constructor
  case loading =>
    intro e d' hd' hstate
    rcases hcourseBack hd' with ⟨-, hactive, -⟩ | ⟨-, hold⟩
    · rw [hactive] at hstate
      cases hstate
    · exact hlinked.loading e d' hold hstate
  case runs =>
    intro e d' hd' run i hi
    rcases hcourseBack hd' with ⟨rfl, -, hids⟩ | ⟨-, hold⟩
    · rw [hids, Option.getD_some, List.mem_zipIdx_iff_getElem?] at hi
      obtain ⟨p, hp⟩ := exists_getElem?_of_length h.runIds.symm hi
      obtain ⟨mine, hmine⟩ := exists_getElem?_of_length (shares_length plans (s.freeSlots plans)) hp
      obtain ⟨_, -, hplace⟩ := h.places i p hp
      exact ⟨_, h.run_new hp hi hmine, rfl, hplace.order⟩
    · obtain ⟨r, hr, hcourse, horder⟩ := hlinked.runs e d' hold run i hi
      exact ⟨r, h.run_old hr, hcourse, horder⟩
  case courseOfRun =>
    intro run r hr
    rcases h.run_cases hr with hold | ⟨i, p, mine, hp, hrun, hmine, rfl⟩
    · rw [allocate_course, if_neg (hotherRun hold)]
      exact hlinked.courseOfRun run r hold
    · have hcourse : (p.record entry mine).course = entry := rfl
      rw [hcourse, allocate_course, if_pos rfl, hd]
      exact ⟨_, rfl, List.mem_of_getElem? hrun⟩
  case slots =>
    intro run r hr id j hj
    rcases h.run_cases hr with hold | ⟨i, p, mine, hp, hrun, hmine, rfl⟩
    · obtain ⟨sl, hsl, hrest⟩ := hlinked.slots run r hold id j hj
      exact ⟨sl, h.slot_old hsl, hrest⟩
    · have hid := List.mem_zipIdx_iff_getElem?.mp hj
      obtain ⟨q, hq⟩ := exists_getElem?_of_length (length_share h.slotIds hp hmine).symm hid
      obtain ⟨_, -, hplace⟩ := h.places i p hp
      exact ⟨_, h.slot_new hp hrun hmine hq hid, rfl, rfl, hplace.slot_index hq⟩
  case runOfSlot =>
    intro id sl hsl
    rcases h.slot_cases hsl with hold | ⟨i, p, run, mine, j, q, hp, hrun, hmine, hq, hid, rfl⟩
    · obtain ⟨r, hr, hmem⟩ := hlinked.runOfSlot id sl hold
      exact ⟨r, h.run_old hr, hmem⟩
    · exact ⟨_, h.run_new hp hrun hmine, List.mem_of_getElem? hid⟩
  case complete =>
    intro e d' hd' hcomplete id sl hsl hcourse
    rcases hcourseBack hd' with ⟨-, hactive, -⟩ | ⟨hne, hold⟩
    · rw [hactive] at hcomplete
      cases hcomplete
    · rcases h.slot_cases hsl with holdSlot | ⟨_, _, _, _, _, _, _, _, _, _, _, rfl⟩
      · exact hlinked.complete e d' hold hcomplete id sl holdSlot hcourse
      · exact absurd hcourse (Ne.symm hne)
  case cut =>
    intro id sl hsl
    rcases h.slot_cases hsl with hold | ⟨_, _, _, _, _, _, _, _, _, _, _, rfl⟩
    · exact hlinked.cut id sl hold
    · exact fun _ => rfl

end Allocated

end Sys2Proof.Machine
end

section
/-! Every change of the records keeps the links of the records, and the feed queue in step with the slots (O57). -/

namespace Sys2Proof.Machine

section Queue

variable {s t : State}

/-- R88, R89, R111: `State.queueInStep` of tables in their one form. -/
structure State.InStep (s : State) : Prop where
  nodup : (s.queue.map Entry.slot).Nodup
  agrees : ∀ e ∈ s.queue, ∃ sl, s.slot e.slot = some sl ∧ e.agrees sl = true
  queued : ∀ id sl, s.slot id = some sl → sl.state.queued = true → id ∈ s.queue.map Entry.slot
  hand : ∀ id sl, s.slot id = some sl → sl.state.inHand = true →
    ∃ head rest, s.queue = head :: rest ∧ head.slot = id ∧ head.position = .atGripper

theorem head?_any_iff {queue : List Entry} {p : Entry → Prop} [DecidablePred p] :
    queue.head?.any (fun e => p e) = true ↔ ∃ head rest, queue = head :: rest ∧ p head := by
  cases queue <;> simp

theorem queueInStep_iff (hs : s.tablesCanonical) : s.queueInStep ↔ s.InStep := by
  constructor
  · rintro ⟨hnodup, hagrees, hqueued, hhand⟩
    refine ⟨hnodup, fun e he => ?_, fun id sl hsl => hqueued (id, sl) ((State.slot_iff_mem hs).mp hsl),
      fun id sl hsl hin => head?_any_iff.mp (hhand (id, sl) ((State.slot_iff_mem hs).mp hsl) hin)⟩
    exact Option.any_eq_true _ _ |>.mp (hagrees e he)
  · intro h
    refine ⟨h.nodup, fun e he => ?_, fun e he => h.queued e.1 e.2 ((State.slot_iff_mem hs).mpr he),
      fun e he hin => head?_any_iff.mpr (h.hand e.1 e.2 ((State.slot_iff_mem hs).mpr he) hin)⟩
    exact Option.any_eq_true _ _ |>.mpr (h.agrees e he)

theorem Entry.queued_of_agrees {e : Entry} {sl : Slot} (h : e.agrees sl = true) : sl.state.queued = true :=
  (of_decide_eq_true h).1

/-- A slot in hand is queued. -/
theorem SlotState.queued_of_inHand {st : SlotState} (h : st.inHand = true) : st.queued = true := by
  rcases of_decide_eq_true h with rfl | rfl <;> rfl

/-- What an entry of the queue sees of its slot is kept. -/
theorem Slot.Moves.agrees {a b : Slot} (h : a.Moves b) {e : Entry} (he : e.agrees a = true) : e.agrees b = true := by
  obtain ⟨hqueued, hgeneration, hkind, hgauged, hcut⟩ := of_decide_eq_true he
  obtain ⟨hgeneration', hgauged', hcut'⟩ := h.tag hqueued
  exact decide_eq_true ⟨h.queued.trans hqueued, hgeneration'.trans hgeneration, h.kind.trans hkind,
    hgauged'.trans hgauged, hcut'.trans hcut⟩

theorem State.slot_updateSlot (s : State) (k : Nat) (f : Slot → Slot) (j : Nat) :
    (s.updateSlot k f).slot j = if j = k then (s.slot j).map f else s.slot j := Table.find_update _ _ _ _

namespace State.InStep

/-- Changes of the slots that the queue does not see: slots without an entry may come and go. -/
theorem of_slots (h : s.InStep) (hqueue : t.queue = s.queue)
    (hforward : ∀ id sl, s.slot id = some sl → sl.state.queued = true → ∃ sl', t.slot id = some sl' ∧ sl.Moves sl')
    (hback : ∀ id sl', t.slot id = some sl' → sl'.state.queued = true → ∃ sl, s.slot id = some sl ∧ sl.Moves sl') :
    t.InStep := by
  constructor
  case nodup => rw [hqueue]; exact h.nodup
  case agrees =>
    intro e he
    rw [hqueue] at he
    obtain ⟨sl, hsl, hagrees⟩ := h.agrees e he
    obtain ⟨sl', hsl', hmoves⟩ := hforward e.slot sl hsl (Entry.queued_of_agrees hagrees)
    exact ⟨sl', hsl', hmoves.agrees hagrees⟩
  case queued =>
    intro id sl' hsl' hqueued
    obtain ⟨sl, hsl, hmoves⟩ := hback id sl' hsl' hqueued
    rw [hqueue]
    exact h.queued id sl hsl (hmoves.queued.symm.trans hqueued)
  case hand =>
    intro id sl' hsl' hin
    obtain ⟨sl, hsl, hmoves⟩ := hback id sl' hsl' (SlotState.queued_of_inHand hin)
    rw [hqueue]
    exact h.hand id sl hsl (hmoves.hand hin)

theorem congr (h : s.InStep) (hqueue : t.queue = s.queue) (hslots : t.slots = s.slots) : t.InStep := by
  have hslot (id : Nat) : t.slot id = s.slot id := by rw [State.slot, hslots]; rfl
  exact h.of_slots hqueue (fun id sl hsl _ => ⟨sl, (hslot id).trans hsl, sl.moves_supports _⟩)
    fun id sl hsl _ => ⟨sl, (hslot id).symm.trans hsl, sl.moves_supports _⟩

/-- One slot is changed in what the queue does not see. -/
theorem slotMoved (h : s.InStep) {id : Nat} {f : Slot → Slot} (hf : ∀ sl, s.slot id = some sl → sl.Moves (f sl)) :
    (s.updateSlot id f).InStep := by
  have hslot := s.slot_updateSlot id f
  refine h.of_slots rfl (fun j sl hsl _ => ?_) fun j sl' hsl' _ => ?_
  · rw [hslot, hsl]
    split
    next hj => exact ⟨_, rfl, hf sl (hj ▸ hsl)⟩
    · exact ⟨sl, rfl, sl.moves_supports _⟩
  · rw [hslot] at hsl'
    split at hsl'
    next hj =>
      obtain ⟨sl, hsl, rfl⟩ := Option.map_eq_some_iff.mp hsl'
      exact ⟨sl, hsl, hf sl (hj ▸ hsl)⟩
    · exact ⟨sl', hsl', sl'.moves_supports _⟩

/-- R99: a brick is assigned: its slot becomes FED and its entry stands at the tail. -/
theorem fed (h : s.InStep) (hcut : ∀ id sl, s.slot id = some sl → sl.closer = false → sl.cutLength = none) {id : Nat}
    {sl : Slot} {e : Entry} (hsl : s.slot id = some sl) (hplanned : sl.state = .planned) (hid : e.slot = id)
    (hgeneration : e.generation = s.generation) (he : e.feeds sl) : ((s.feeding id e.gauged).append e).InStep := by
  have hslot (j : Nat) : ((s.feeding id e.gauged).append e).slot j =
      if j = id then (s.slot j).map fun sl => sl.fedWith s.generation e.gauged else s.slot j :=
    s.slot_updateSlot id (fun sl => sl.fedWith s.generation e.gauged) j
  have hqueue : ((s.feeding id e.gauged).append e).queue = s.queue ++ [e] := rfl
  have hnot : id ∉ s.queue.map Entry.slot := by
    intro hmem
    obtain ⟨d, hd, hdid⟩ := List.mem_map.mp hmem
    obtain ⟨sl', hsl', hagrees⟩ := h.agrees d hd
    rw [hdid, hsl] at hsl'
    cases hsl'
    have := Entry.queued_of_agrees hagrees
    rw [hplanned] at this
    exact Bool.false_ne_true this
  constructor
  case nodup =>
    rw [hqueue, List.map_append, List.map_singleton, hid, List.nodup_append]
    exact ⟨h.nodup, List.nodup_singleton _, fun a ha b hb heq => hnot (List.mem_singleton.mp hb ▸ heq ▸ ha)⟩
  case agrees =>
    intro d hd
    rw [hqueue] at hd
    rcases List.mem_append.mp hd with hd | hd
    · have hne : d.slot ≠ id := fun heq => hnot (heq ▸ List.mem_map_of_mem hd)
      rw [hslot, if_neg hne]
      exact h.agrees d hd
    · rw [List.mem_singleton.mp hd, hslot, if_pos hid, hid, hsl]
      refine ⟨_, rfl, decide_eq_true ⟨rfl, congrArg some hgeneration.symm, he.1.symm, rfl, ?_⟩⟩
      rw [he.2.1]
      split
      · rfl
      next hcloser => exact hcut id sl hsl (Bool.eq_false_iff.mpr hcloser)
  case queued =>
    intro j sl' hsl' hqueued
    rw [hslot] at hsl'
    rw [hqueue, List.map_append, List.mem_append]
    split at hsl'
    next hj => exact .inr (List.mem_singleton.mpr (hj.trans hid.symm))
    · exact .inl (h.queued j sl' hsl' hqueued)
  case hand =>
    intro j sl' hsl' hin
    rw [hslot] at hsl'
    split at hsl'
    · obtain ⟨_, _, rfl⟩ := Option.map_eq_some_iff.mp hsl'
      exact absurd hin Bool.false_ne_true
    · obtain ⟨head, rest, hhead, hrest⟩ := h.hand j sl' hsl' hin
      exact ⟨head, rest ++ [e], by rw [hqueue, hhead]; rfl, hrest⟩

/-- R102: the head arrives. -/
theorem delivered (h : s.InStep) {e : Entry} {rest : List Entry} (hqueue : s.queue = e :: rest) :
    ({ s with queue := { e with position := .atGripper } :: rest } : State).InStep := by
  constructor
  case nodup =>
    have hnodup := h.nodup
    rwa [hqueue] at hnodup
  case agrees =>
    intro d hd
    rcases List.mem_cons.mp hd with rfl | hd
    · exact h.agrees e (hqueue ▸ List.mem_cons_self)
    · exact h.agrees d (hqueue ▸ List.mem_cons_of_mem _ hd)
  case queued =>
    intro id sl hsl hqueued
    have hmem := h.queued id sl hsl hqueued
    rwa [hqueue] at hmem
  case hand =>
    intro id sl hsl hin
    obtain ⟨head, rest', hhead, hid, -⟩ := h.hand id sl hsl hin
    rw [hqueue] at hhead
    cases hhead
    exact ⟨_, _, rfl, hid, rfl⟩

/-- R106: the queue is emptied and its slots go back to PLANNED. -/
theorem flushed (h : s.InStep) : s.flushed.InStep := by
  have hnone {id : Nat} {sl' : Slot} (hsl' : s.flushed.slot id = some sl') : sl'.state.queued = false := by
    rw [State.flushed_slot] at hsl'
    split at hsl'
    · obtain ⟨_, _, rfl⟩ := Option.map_eq_some_iff.mp hsl'
      rfl
    next hnot =>
      rw [Bool.eq_false_iff]
      intro hqueued
      obtain ⟨e, he, hid⟩ := List.mem_map.mp (h.queued id sl' hsl' hqueued)
      exact hnot ⟨e, he, hid⟩
  constructor
  case nodup => exact .nil
  case agrees => exact nofun
  case queued => exact fun id sl' hsl' hqueued => absurd ((hnone hsl').symm.trans hqueued) Bool.false_ne_true
  case hand =>
    exact fun id sl' hsl' hin =>
      absurd ((hnone hsl').symm.trans (SlotState.queued_of_inHand hin)) Bool.false_ne_true

/-- R119: the slot of a head at the gripper is issued, while none is in hand. -/
theorem issued (h : s.InStep) (hnone : s.inHand = none) (hs : s.tablesCanonical) {e : Entry} {rest : List Entry}
    (hqueue : s.queue = e :: rest) (hhead : e.position = .atGripper) {sl : Slot} (hsl : s.slot e.slot = some sl)
    (c : Correction) : (s.updateSlot e.slot fun _ => sl.issuedAs c).InStep := by
  have hslot := s.slot_updateSlot e.slot fun _ => sl.issuedAs c
  have hagrees : e.agrees sl = true := by
    obtain ⟨sl', hsl', hagrees⟩ := h.agrees e (hqueue ▸ List.mem_cons_self)
    rw [hsl] at hsl'
    cases hsl'
    exact hagrees
  constructor
  case nodup => exact h.nodup
  case agrees =>
    intro d hd
    rw [hslot]
    split
    next hj =>
      have hde : d = e := List.inj_on_of_nodup_map h.nodup hd (hqueue ▸ List.mem_cons_self) hj
      rw [hde, hsl]
      obtain ⟨-, hrest⟩ := of_decide_eq_true hagrees
      exact ⟨_, rfl, decide_eq_true ⟨rfl, hrest⟩⟩
    · exact h.agrees d hd
  case queued =>
    intro j sl' hsl' hqueued
    rw [hslot] at hsl'
    split at hsl'
    next hj =>
      have hmem : e ∈ s.queue := hqueue ▸ List.mem_cons_self
      exact List.mem_map.mpr ⟨e, hmem, hj.symm⟩
    · exact h.queued j sl' hsl' hqueued
  case hand =>
    intro j sl' hsl' hin
    rw [hslot] at hsl'
    split at hsl'
    next hj => exact ⟨e, rest, hqueue, hj.symm, hhead⟩
    · exact absurd hin (List.find?_eq_none.mp hnone (j, sl') ((State.slot_iff_mem hs).mp hsl'))

/-- R121, R137: the slot in hand becomes PLACED and leaves the queue. -/
theorem placed (h : s.InStep) {id : Nat} {sl : Slot} (hsl : s.slot id = some sl) (hhand : sl.state.inHand = true)
    (now : Time) :
    ({ s.updateSlot id (fun sl => sl.placedAt now) with queue := s.queue.tail } : State).InStep := by
  obtain ⟨head, rest, hqueue, hid, -⟩ := h.hand id sl hsl hhand
  have hnodup := h.nodup
  rw [hqueue, List.map_cons, List.nodup_cons, hid] at hnodup
  rw [hqueue, List.tail_cons]
  have hslot (j : Nat) :
      ({ s.updateSlot id (fun sl => sl.placedAt now) with queue := rest } : State).slot j =
        if j = id then (s.slot j).map fun sl => sl.placedAt now else s.slot j :=
    s.slot_updateSlot id (fun sl => sl.placedAt now) j
  have hback {j : Nat} {sl' : Slot}
      (hsl' : ({ s.updateSlot id (fun sl => sl.placedAt now) with queue := rest } : State).slot j = some sl')
      (hqueued : sl'.state.queued = true) : j ≠ id ∧ s.slot j = some sl' := by
    rw [hslot] at hsl'
    split at hsl'
    · obtain ⟨_, _, rfl⟩ := Option.map_eq_some_iff.mp hsl'
      exact absurd hqueued Bool.false_ne_true
    next hj => exact ⟨hj, hsl'⟩
  constructor
  case nodup => exact hnodup.2
  case agrees =>
    intro d hd
    have hne : d.slot ≠ id := fun heq => hnodup.1 (heq ▸ List.mem_map_of_mem hd)
    rw [hslot, if_neg hne]
    exact h.agrees d (hqueue ▸ List.mem_cons_of_mem _ hd)
  case queued =>
    intro j sl' hsl' hqueued
    obtain ⟨hj, hold⟩ := hback hsl' hqueued
    have hmem := h.queued j sl' hold hqueued
    rw [hqueue, List.map_cons, hid] at hmem
    exact (List.mem_cons.mp hmem).resolve_left hj
  case hand =>
    intro j sl' hsl' hin
    obtain ⟨hj, hold⟩ := hback hsl' (SlotState.queued_of_inHand hin)
    obtain ⟨head', rest', hqueue', hid', -⟩ := h.hand j sl' hold hin
    rw [hqueue] at hqueue'
    cases hqueue'
    exact absurd (hid'.symm.trans hid) hj

theorem of_empty (hqueue : s.queue = []) (hslots : s.slots = []) : s.InStep := by
  have hslot (id : Nat) (sl : Slot) : s.slot id ≠ some sl := by rw [State.slot, hslots]; exact nofun
  constructor
  case nodup => rw [hqueue]; exact .nil
  case agrees => rw [hqueue]; exact nofun
  case queued | hand => exact fun id sl hsl => absurd hsl (hslot id sl)

end State.InStep

/-! ### The changes -/

/-- R129, R158: an ISSUED slot that becomes UNCERTAIN stays in its entry's hands. -/
theorem Slot.outOfSight_moves_of_issued {sl : Slot} (h : sl.state = .issued) : sl.Moves sl.outOfSight where
  course := rfl
  run := rfl
  index := rfl
  kind := rfl
  closer := rfl
  cut _ := rfl
  verified hv := by rw [h] at hv; cases hv
  hand _ := by rw [h]; rfl
  queued := by rw [h]; rfl
  tag _ := ⟨rfl, rfl, rfl⟩

theorem State.issued_of_issuedSlot (hs : s.tablesCanonical) {e : Nat × Slot} (h : s.issuedSlot = some e) {sl : Slot}
    (hsl : s.slot e.1 = some sl) : sl.state = .issued := by
  have hmem := (State.slot_iff_mem hs).mpr (List.mem_of_find?_eq_some h)
  rw [Option.some.inj (hsl.symm.trans hmem)]
  simpa using List.find?_some (p := fun e : Nat × Slot => decide (e.2.state = .issued)) h

theorem RecordChange.inStep (h : RecordChange s t) (hs : s.tablesCanonical) (hlinked : s.Linked) (hstep : s.InStep) :
    t.InStep := by
  cases h with
  | same h => exact hstep.congr (State.queue_of_records h) (State.slots_of_records h)
  | reset h => exact .of_empty (State.queue_of_records h) (State.slots_of_records h)
  | slotMoved f hf => exact hstep.slotMoved hf
  | sightLost hissued =>
    exact hstep.slotMoved fun sl hsl => Slot.outOfSight_moves_of_issued (State.issued_of_issuedSlot hs hissued hsl)
  | fed id e hroom hsl hplanned hid hgeneration he => exact hstep.fed hlinked.cut hsl hplanned hid hgeneration he
  | delivered hqueue => exact hstep.delivered hqueue
  | flushed => exact hstep.flushed
  | issued c hhand hqueue hhead hsl => exact hstep.issued hhand hs hqueue hhead hsl c
  | placed id now hsl hhand => exact hstep.placed hsl hhand now
  | committed hload hc hpass =>
    have hallocates := State.allocates hs hpass
    refine hstep.of_slots (by rw [allocate_frame])
      (fun id sl hsl _ => ⟨sl, hallocates.slot_old hsl, sl.moves_supports _⟩) fun id sl' hsl' hqueued => ?_
    rcases hallocates.slot_cases hsl' with hold | ⟨_, _, _, _, _, _, _, _, _, _, _, rfl⟩
    · exact ⟨sl', hold, sl'.moves_supports _⟩
    · exact absurd hqueued Bool.false_ne_true
  | retired hr hc hcomplete hlowest =>
    have hcourse := (State.course_iff_mem hs).mpr hc
    refine hstep.of_slots rfl (fun id sl hsl hqueued => hlinked.retire_slot_stays hcourse hsl fun heq => ?_)
      fun id sl' hsl' _ => ?_
    · rw [hlinked.complete _ _ hcourse hcomplete id sl hsl heq] at hqueued
      exact Bool.false_ne_true hqueued
    · obtain ⟨sl, hsl, -, hmoves⟩ := hlinked.retire_slot_back hcourse hsl'
      exact ⟨sl, hsl, hmoves⟩
  | featureLinked => rw [State.linkFeature_frame]; exact hstep.congr rfl rfl
  | featureDropped => rw [State.relink_frame]; exact hstep.congr rfl rfl
  | loadDropped => rw [State.dropLoad_frame]; exact hstep.congr rfl rfl
  | wallOpened | wallClosed | lintelPlaced | kindDefined | profileDefined | loadOpened | runReceived | runMoved
  | completed => exact hstep.congr rfl rfl

/-- One slot is changed in what the links do not see. -/
theorem State.Linked.updateSlot (h : s.Linked) {k : Nat} {f : Slot → Slot}
    (hf : ∀ sl, s.slot k = some sl → sl.Stays (f sl)) : (s.updateSlot k f).Linked := by
  refine h.of_slots rfl rfl (g := fun j sl => if j = k then f sl else sl) (fun j => ?_) fun j sl hsl => ?_
  · rw [State.slot_updateSlot]
    by_cases hj : j = k <;> simp [hj]
  · split
    next hj => exact hf sl (hj ▸ hsl)
    · exact .refl sl

theorem RecordChange.linked (h : RecordChange s t) (hs : s.tablesCanonical) (hl : s.loadNamesLoading)
    (hlinked : s.Linked) (hstep : s.InStep) : t.Linked := by
  cases h with
  | same h => exact hlinked.congr (State.courses_of_records h) (State.runs_of_records h) (State.slots_of_records h)
  | reset h => exact .of_empty (State.courses_of_records h) (State.runs_of_records h) (State.slots_of_records h)
  | loadOpened hr hload hlast hentry hempty => exact hlinked.loadOpened hempty
  | loadDropped => exact hlinked.loadDropped hs hl
  | completed hc hall => exact hlinked.completed hc hall
  | retired hr hc hcomplete hlowest => exact hlinked.retired ((State.course_iff_mem hs).mpr hc)
  | committed hload hc hpass =>
    obtain ⟨d, hd, hloading⟩ := State.course_of_load hs hl hload
    exact State.Linked.committed (State.allocates hs hpass) hlinked hd hloading
  | runMoved f hf => exact hlinked.runMoved hf
  | slotMoved f hf => exact hlinked.updateSlot fun sl hsl => (hf sl hsl).stays
  | sightLost hissued =>
    exact hlinked.updateSlot fun sl hsl =>
      (Slot.outOfSight_moves_of_issued (State.issued_of_issuedSlot hs hissued hsl)).stays
  | fed id e hroom hsl hplanned =>
    refine (hlinked.updateSlot (k := id) (f := fun sl => sl.fedWith s.generation e.gauged) fun sl' hsl' => ?_).congr
      rfl rfl rfl
    rw [hsl] at hsl'
    cases hsl'
    exact ⟨rfl, rfl, rfl, fun hv => absurd (hplanned.symm.trans hv) (by decide), fun hcut => hcut⟩
  | flushed =>
    refine hlinked.of_slots rfl rfl (g := fun j sl => if ∃ e ∈ s.queue, e.slot = j then sl.unfed else sl)
      (fun j => ?_) fun j sl hsl => ?_
    · rw [State.flushed_slot]
      split
      · rfl
      · exact Option.map_id'.symm
    · split
      next hj =>
        obtain ⟨e, he, rfl⟩ := hj
        obtain ⟨sl', hsl', hagrees⟩ := hstep.agrees e he
        rw [hsl] at hsl'
        cases hsl'
        refine ⟨rfl, rfl, rfl, fun hv => ?_, id⟩
        have hqueued := Entry.queued_of_agrees hagrees
        rw [hv] at hqueued
        exact absurd hqueued Bool.false_ne_true
      · exact .refl sl
  | issued c hhand hqueue hhead hsl =>
    refine hlinked.updateSlot fun sl' hsl' => ?_
    rw [hsl] at hsl'
    cases hsl'
    refine ⟨rfl, rfl, rfl, fun hv => ?_, id⟩
    obtain ⟨sl'', hsl'', hagrees⟩ := hstep.agrees _ (hqueue ▸ List.mem_cons_self)
    rw [hsl] at hsl''
    cases hsl''
    have hqueued := Entry.queued_of_agrees hagrees
    rw [hv] at hqueued
    exact absurd hqueued Bool.false_ne_true
  | placed id now hsl hhand =>
    refine (hlinked.updateSlot (k := id) (f := fun sl => sl.placedAt now) fun sl' hsl' => ?_).congr rfl rfl rfl
    rw [hsl] at hsl'
    cases hsl'
    refine ⟨rfl, rfl, rfl, fun hv => ?_, fun hcut => hcut⟩
    rw [hv] at hhand
    exact absurd hhand Bool.false_ne_true
  | featureLinked => rw [State.linkFeature_frame]; exact hlinked.congr rfl rfl rfl
  | featureDropped => rw [State.relink_frame]; exact hlinked.congr rfl rfl rfl
  | wallOpened | wallClosed | lintelPlaced | kindDefined | profileDefined | runReceived | delivered =>
    exact hlinked.congr rfl rfl rfl

end Queue

/-- The records of courses, runs and slots, with the queue, in form and in step. -/
structure State.BeltInForm (s : State) : Prop where
  tables : s.tablesCanonical
  load : s.loadNamesLoading
  linked : s.Linked
  inStep : s.InStep

theorem RecordChange.beltInForm {s t : State} (h : RecordChange s t) (hs : s.BeltInForm) : t.BeltInForm where
  tables := h.tablesCanonical hs.tables
  load := h.loadNamesLoading hs.tables hs.load
  linked := h.linked hs.tables hs.load hs.linked hs.inStep
  inStep := h.inStep hs.tables hs.linked hs.inStep

/-- Settles O57: each of the three invariants is kept by every change of the records that a step makes. -/
theorem stepKeepsTheBeltInForm : Obligations.StepKeepsTheBeltInForm := by
  refine ⟨fun s t hs ht => ?_, fun s t hs hone ht => ?_, fun s t hs hl hlinked hstep ht => ?_⟩
  · exact step_keeps (P := State.queueInForm) (fun _ _ h hs => h.queueInForm hs) (fun _ _ hs => hs) hs ht
  · exact (step_keeps (P := fun s => s.tablesCanonical ∧ s.oneInHand)
      (fun _ _ h hs => ⟨h.tablesCanonical hs.1, h.oneInHand hs.1 hs.2⟩) (fun _ _ hs => hs) ⟨hs, hone⟩ ht).2
  · have hbelt : s.BeltInForm := ⟨hs, hl, hlinked.linked hs, (queueInStep_iff hs).mp hstep⟩
    have hbelt' := step_keeps (fun _ _ h hs => h.beltInForm hs)
      (fun _ _ hs => ⟨hs.tables, hs.load, hs.linked.congr rfl rfl rfl, hs.inStep.congr rfl rfl⟩) hbelt ht
    exact ⟨hbelt'.linked.recordsLinked hbelt'.tables, (queueInStep_iff hbelt'.tables).mpr hbelt'.inStep⟩

end Sys2Proof.Machine
end

section
/-! No body of a request answers OVERRUN: that answer is the Port Unit's own (11 R185). -/

namespace Sys2Proof.Machine

@[simp] theorem Reply.okWith_answer (detail : List Byte) : (Reply.okWith detail).answer = .ok := rfl
@[simp] theorem Reply.okay_answer : Reply.okay.answer = .ok := rfl
@[simp] theorem Reply.refusedWith_answer (reason : ReasonCode) (detail : List Byte) :
    (Reply.refusedWith reason detail).answer = .refused := rfl
@[simp] theorem Reply.refuse_answer (reason : ReasonCode) : (Reply.refuse reason).answer = .refused := rfl
@[simp] theorem Reply.waitFor_answer (reason : ReasonCode) (detail : List Byte) :
    (Reply.waitFor reason detail).answer = .wait := rfl
@[simp] theorem Reply.plain_answer (answer : AnswerCode) (detail : List Byte) :
    (Reply.plain answer detail).answer = answer := rfl
@[simp] theorem State.refuseNoRecord_answer (s : State) (port : Port) (slot : Option Nat) (recordType identifier : Nat)
    (detail : List Byte) : (s.refuseNoRecord port slot recordType identifier detail).1.answer = .refused := rfl

/-- A body's reply is never the OVERRUN answer. -/
def AnswersItself (body : State → Reply × State) : Prop := ∀ s : State, (body s).1.answer ≠ .overrun

/-! ### Naming records -/

theorem withWall_answers (w : Nat) {body : Wall → State → Reply × State} (h : ∀ r, AnswersItself (body r)) :
    AnswersItself (withWall w body) := by
  intro s
  unfold withWall
  split
  · simp
  · exact h _ _

theorem withSlot_answers (port : Port) (id : Nat) {body : Slot → State → Reply × State}
    (h : ∀ sl, AnswersItself (body sl)) : AnswersItself (withSlot port id body) := by
  intro s
  unfold withSlot
  split
  · simp
  · split
    · simp
    · exact h _ _

theorem withCourse_answers (w number : Nat) {body : Nat → Course → State → Reply × State}
    (h : ∀ e c, AnswersItself (body e c)) : AnswersItself (withCourse w number body) := by
  intro s
  unfold withCourse
  split
  · simp
  · split
    · simp
    · split
      · simp
      · exact h _ _ _

theorem withFeature_answers (k : Nat) {body : Feature → State → Reply × State} (h : ∀ f, AnswersItself (body f)) :
    AnswersItself (withFeature k body) := by
  intro s
  unfold withFeature
  split
  · simp
  · split
    · simp
    · exact h _ _

/-! ### The wall, the openings and the configuration -/

theorem wallOpen_answers (w : Nat) (length : Int) : AnswersItself (wallOpen w length) := by
  intro s
  unfold wallOpen
  repeat' split
  all_goals simp

theorem wallClose_answers (w : Nat) : AnswersItself (wallClose w) := by
  intro s
  unfold wallClose
  split
  · simp
  · refine withWall_answers w (fun r s => ?_) s
    split <;> simp

theorem wallRead_answers (w start : Nat) : AnswersItself (wallRead w start) := by
  intro s
  unfold wallRead
  split
  · simp
  · split <;> simp

theorem featureInsert_answers (w : Nat) (r : Wall) (new : Feature) : AnswersItself (featureInsert w r new) := by
  intro s
  unfold featureInsert
  repeat' split
  all_goals simp

theorem featureAdd_answers (w : Nat) (xa xb zSill zHead : Int) : AnswersItself (featureAdd w xa xb zSill zHead) := by
  intro s
  unfold featureAdd
  split
  · simp
  · refine withWall_answers w (fun r s => ?_) s
    split
    · simp
    · exact featureInsert_answers _ _ _ _

theorem featureDrop_answers (k : Nat) : AnswersItself (featureDrop k) := by
  refine withFeature_answers k fun f s => ?_
  dsimp only
  repeat' split
  all_goals simp

theorem lintelSet_answers (k : Nat) (topZ bearing : Int) : AnswersItself (lintelSet k topZ bearing) := by
  intro s
  unfold lintelSet
  split
  · simp
  · refine withFeature_answers k (fun f s => ?_) s
    repeat' split
    all_goals simp

theorem configKind_answers (k : Nat) (length height bedDepth cmin : Int) (lt : Option Int) : AnswersItself (configKind k length height bedDepth cmin lt) := by
  intro s
  unfold configKind
  repeat' split
  all_goals simp

theorem configProfile_answers (k : Nat) (jn jmin jmax bn : Int) (tOpen : Option Nat) : AnswersItself (configProfile k jn jmin jmax bn tOpen) := by
  intro s
  unfold configProfile
  repeat' split
  all_goals simp

theorem setParam_answers (value lo hi : Int) (write : State → State) : AnswersItself (setParam value lo hi write) := by
  intro s
  unfold setParam
  split <;> simp

/-- R16: the saw step is refused, if at all. -/
theorem sawStepRefusal_refused {value : Int} {s : State} {r : Reply} (h : sawStepRefusal value s = some r) :
    r.answer = .refused := by
  unfold sawStepRefusal at h
  split at h
  · cases h
    rfl
  · split at h
    · cases h
      rfl
    · split at h <;> cases h
      rfl

theorem configSawStep_answers (value : Int) : AnswersItself (configSawStep value) := by
  intro s
  unfold configSawStep
  split
  · simp
  · split
    next hrefusal => simp [sawStepRefusal_refused hrefusal]
    · simp

theorem configMinimumLap_answers (value : Int) : AnswersItself (configMinimumLap value) := setParam_answers _ _ _ _

theorem configTolerance_answers (parameter : Nat) (value : Int) : AnswersItself (configTolerance parameter value) := by
  intro s
  unfold configTolerance
  split
  · exact setParam_answers _ _ _ _ s
  split
  · exact setParam_answers _ _ _ _ s
  split
  · exact setParam_answers _ _ _ _ s
  split
  · exact setParam_answers _ _ _ _ s
  split
  · exact setParam_answers _ _ _ _ s
  simp

theorem configSetTime_answers (value : Int) : AnswersItself (configSetTime value) := setParam_answers _ _ _ _

theorem configDatumSkew_answers (value : Int) : AnswersItself (configDatumSkew value) := setParam_answers _ _ _ _

theorem configStrictReferences_answers (value : Int) : AnswersItself (configStrictReferences value) :=
  setParam_answers _ _ _ _

theorem configEdgeSense_answers (parameter : Nat) (value : Int) : AnswersItself (configEdgeSense parameter value) := by
  intro s
  unfold configEdgeSense
  split
  · simp
  · exact setParam_answers _ _ _ _ _

theorem configRead_answers (table number : Nat) : AnswersItself (configRead table number) := by
  intro s
  unfold configRead
  repeat' split
  all_goals simp

/-! ### The courses -/

/-- R30 to R45: a check of a commit that fails is a refusal. -/
theorem checkRunEntries_refused {s : State} {runs : List (Int × Int)} {r : Reply} (h : checkRunEntries s runs = some r) :
    r.answer = .refused := by
  unfold checkRunEntries at h
  dsimp only at h
  split at h <;> cases h
  rfl

theorem checkRunOrder_refused {wallLength : Int} {i : Nat} {previousEnd : Option Int} {runs : List (Int × Int)} {r : Reply}
    (h : checkRunOrder wallLength i previousEnd runs = some r) : r.answer = .refused := by
  induction runs generalizing i previousEnd with
  | nil => cases h
  | cons run runs ih =>
    obtain ⟨start, stop⟩ := run
    rw [checkRunOrder] at h
    by_cases hrange : start < 0 ∨ wallLength < stop ∨ stop ≤ start
    · rw [if_pos hrange] at h
      cases h
      rfl
    · rw [if_neg hrange] at h
      split at h
      · cases h
        rfl
      · exact ih h

theorem checkOpenings_refused {chain : List (Nat × Feature)} {base top : Int} {i : Nat} {runs : List (Int × Int)}
    {r : Reply} (h : checkOpenings chain base top i runs = some r) : r.answer = .refused := by
  induction runs generalizing i with
  | nil => cases h
  | cons run runs ih =>
    rw [checkOpenings] at h
    split at h
    · cases h
      rfl
    · exact ih h

theorem solveRun_refused {k : Kind} {p : Profile} {q : Int} {saw : Bool} {order : Nat} {start stop : Int} {r : Reply}
    (h : solveRun k p q saw order start stop = .error r) : r.answer = .refused := by
  unfold solveRun at h
  dsimp only at h
  split at h
  · cases h
    rfl
  next n closer _ =>
    rcases error_of_unless h with ⟨-, rfl⟩ | ⟨-, h⟩
    · rfl
    · rcases error_of_unless h with ⟨-, rfl⟩ | ⟨-, h⟩
      · rfl
      · rcases error_of_unless h with ⟨-, rfl⟩ | ⟨-, h⟩
        · rfl
        · cases h

theorem solveRuns_refused {k : Kind} {p : Profile} {q : Int} {saw : Bool} {order : Nat} {runs : List (Int × Int)}
    {r : Reply} (h : solveRuns k p q saw order runs = .error r) : r.answer = .refused := by
  induction runs generalizing order with
  | nil => cases h
  | cons run runs ih =>
    rw [solveRuns] at h
    split at h
    next hfirst =>
      cases h
      exact solveRun_refused hfirst
    · split at h
      next hrest =>
        cases h
        exact ih hrest
      · cases h

theorem checkSlotEntries_refused {s : State} {plans : List RunPlan} {r : Reply} (h : checkSlotEntries s plans = some r) :
    r.answer = .refused := by
  unfold checkSlotEntries at h
  dsimp only at h
  split at h <;> cases h
  rfl

theorem supportSlot_refused {bed : Bed} {order : Nat} {p : SlotPlan} {r : Reply} (h : supportSlot bed order p = .error r) :
    r.answer = .refused := by
  unfold supportSlot at h
  dsimp only at h
  split at h
  · cases h
    rfl
  · split at h
    · cases h
    · split at h
      · cases h
      · cases h
        rfl

theorem supportSlots_refused {bed : Bed} {order : Nat} {ps : List SlotPlan} {r : Reply}
    (h : supportSlots bed order ps = .error r) : r.answer = .refused := by
  induction ps with
  | nil => cases h
  | cons p ps ih =>
    rw [supportSlots] at h
    split at h
    next hfirst =>
      cases h
      exact supportSlot_refused hfirst
    · split at h
      next hrest =>
        cases h
        exact ih hrest
      · cases h

theorem supportRuns_refused {bed : Bed} {plans : List RunPlan} {r : Reply} (h : supportRuns bed plans = .error r) :
    r.answer = .refused := by
  induction plans with
  | nil => cases h
  | cons p plans ih =>
    rw [supportRuns] at h
    split at h
    next hfirst =>
      cases h
      exact supportSlots_refused hfirst
    · split at h
      next hrest =>
        cases h
        exact ih hrest
      · cases h

theorem checkLap_refused {minimumLap : Int} {below : List Int} {plans : List RunPlan} {r : Reply}
    (h : checkLap minimumLap below plans = some r) : r.answer = .refused := by
  induction plans with
  | nil => cases h
  | cons p plans ih =>
    rw [checkLap] at h
    split at h
    · cases h
      rfl
    · exact ih h

theorem bedChecks_refused {s : State} {w : Wall} {c : Course} {plans : List RunPlan} {r : Reply}
    (h : bedChecks s w c plans = .error r) : r.answer = .refused := by
  unfold bedChecks at h
  split at h
  · cases h
  · split at h
    next hsupport =>
      cases h
      exact supportRuns_refused hsupport
    · split at h
      next hlap =>
        cases h
        exact checkLap_refused hlap
      · cases h

/-- R30: a commit that fails a check is refused. -/
theorem commitChecks_refused {s : State} {w : Wall} {c : Course} {runs : List (Int × Int)} {r : Reply}
    (h : commitChecks s w c runs = .error r) : r.answer = .refused := by
  unfold commitChecks at h
  split at h
  next hentries =>
    cases h
    exact checkRunEntries_refused hentries
  · split at h
    next horder =>
      cases h
      exact checkRunOrder_refused horder
    · split at h
      next hopenings =>
        cases h
        exact checkOpenings_refused hopenings
      · split at h
        next hsolve =>
          cases h
          exact solveRuns_refused hsolve
        · split at h
          next hslots =>
            cases h
            exact checkSlotEntries_refused hslots
          · exact bedChecks_refused h

theorem commit_answers (entry : Nat) (runs : List (Int × Int)) : AnswersItself fun s => commit s entry runs := by
  intro s
  dsimp only
  unfold commit
  dsimp only
  split
  next hrefusal => simp [commitChecks_refused hrefusal]
  · simp [allocate]

theorem courseBegin_answers (w kind profile runCount : Nat) : AnswersItself (courseBegin w kind profile runCount) := by
  intro s
  unfold courseBegin
  split
  · simp
  · refine withWall_answers w (fun r s => ?_) s
    dsimp only
    repeat' split
    all_goals simp

theorem runEntry_answers (start stop : Int) : AnswersItself (runEntry start stop) := by
  intro s
  unfold runEntry
  split
  · simp
  · dsimp only
    split
    · simp
    · exact commit_answers _ _ _

theorem courseAbandon_answers : AnswersItself (courseAbandon) := by
  intro s
  unfold courseAbandon
  repeat' split
  all_goals simp

theorem courseRetire_answers (w number : Nat) : AnswersItself (courseRetire w number) := by
  refine withCourse_answers w number fun e c s => ?_
  dsimp only
  repeat' split
  all_goals simp

theorem courseRead_answers (w number : Nat) (order : Option Nat) : AnswersItself (courseRead w number order) := by
  refine withCourse_answers w number fun e c s => ?_
  repeat' split
  all_goals simp

theorem runSlack_answers (w number order : Nat) : AnswersItself (runSlack w number order) := by
  intro s
  unfold runSlack
  split
  · simp
  · refine withCourse_answers w number (fun e c s => ?_) s
    split <;> simp

/-! ### The slots, the station and the faults -/

theorem slotRead_answers (id : Nat) : AnswersItself (slotRead id) :=
  withSlot_answers .p id fun sl s => by simp

theorem accept_answers (id : Nat) : AnswersItself (accept id) := by
  refine withSlot_answers .p id fun sl s => ?_
  dsimp only
  split <;> simp

theorem relay_answers (id : Nat) : AnswersItself (relay id) := by
  refine withSlot_answers .p id fun sl s => ?_
  repeat' split
  all_goals simp

theorem flush_answers : AnswersItself (flush) := by
  intro s
  unfold flush
  repeat' split
  all_goals simp

theorem stationSet_answers (w : Nat) (xLo xHi zHi : Int) : AnswersItself (stationSet w xLo xHi zHi) := by
  intro s
  unfold stationSet
  split
  · simp
  · split
    · simp
    · split
      · simp
      · refine withWall_answers w (fun r s => ?_) s
        split <;> simp

theorem stationMove_answers : AnswersItself (stationMove) := by
  intro s
  unfold stationMove
  repeat' split
  all_goals simp

theorem datum_answers (ox oy oz skew : Int) : AnswersItself (datum ox oy oz skew) := by
  intro s
  unfold datum
  repeat' split
  all_goals simp

theorem acknowledge_answers (reasons : BitVec 16) : AnswersItself (acknowledge reasons) := by
  intro s
  unfold acknowledge
  repeat' split
  all_goals simp

theorem enable_answers (enables : BitVec 16) : AnswersItself (enable enables) := by
  intro s
  unfold enable
  repeat' split
  all_goals simp

theorem captureRead_answers (n : Nat) : AnswersItself (captureRead n) := by
  intro s
  unfold captureRead
  repeat' split
  all_goals simp

theorem captureClear_answers (n : Nat) : AnswersItself (captureClear n) := by
  intro s
  unfold captureClear
  repeat' split
  all_goals simp

theorem queueRead_answers : AnswersItself queueRead := fun s => by simp [queueRead]

theorem stationRead_answers : AnswersItself stationRead := fun s => by simp [stationRead]

theorem status_answers : AnswersItself status := fun s => by simp [status]

theorem clearRefusal_refused {flag : FaultFlag} {s : State} {r : Reply} (h : clearRefusal flag s = some r) :
    r.answer = .refused := by
  unfold clearRefusal at h
  split at h
  case h_1 | h_2 =>
    split at h <;> cases h
    rfl
  all_goals cases h

theorem clearFault_answers (n : Nat) : AnswersItself (clearFault n) := by
  intro s
  unfold clearFault
  split
  · simp
  · split
    next hrefusal => simp [clearRefusal_refused hrefusal]
    · simp

/-! ### The arm, the tracker and the feeder -/

theorem State.nextHold_answer {s : State} {r : Reply} (h : s.nextHold = some r) : r.answer ≠ .overrun := by
  unfold State.nextHold at h
  repeat' split at h
  all_goals cases h
  all_goals simp

theorem State.headHold_answer {s : State} {id : Nat} {sl : Slot} {r : Reply} (h : s.headHold id sl = some r) :
    r.answer ≠ .overrun := by
  unfold State.headHold at h
  repeat' split at h
  all_goals cases h
  all_goals simp

theorem nextAtHead_answers : AnswersItself nextAtHead := by
  intro s
  unfold nextAtHead
  split
  · simp
  · split
    · simp
    · split
      · simp
      · split
        next hhold => exact State.headHold_answer hhold
        · simp [issue]

theorem next_answers : AnswersItself next := by
  intro s
  unfold next
  split
  · simp [State.busyReply]
  · split
    next hhold => exact State.nextHold_answer hhold
    · exact nextAtHead_answers s

theorem placeReported_answers (id : Nat) (sl : Slot) : AnswersItself (placeReported id sl) := by
  intro s
  unfold placeReported
  dsimp only
  split <;> simp

theorem placed_answers (id : Nat) : AnswersItself (placed id) := by
  refine withSlot_answers .a id fun sl s => ?_
  split
  case h_1 | h_2 => exact placeReported_answers _ _ _
  all_goals simp

theorem decline_answers (id : Nat) : AnswersItself (decline id) := by
  refine withSlot_answers .a id fun sl s => ?_
  split <;> simp

theorem measure_answers (id : Nat) (m : Measurement) : AnswersItself (measure id m) := by
  refine withSlot_answers .t id fun sl s => ?_
  split <;> simp

theorem absent_answers (id : Nat) : AnswersItself (absent id) := by
  refine withSlot_answers .t id fun sl s => ?_
  split <;> simp

theorem pick_answers (kind : Nat) (gauged : Int) : AnswersItself (pick kind gauged) := by
  intro s
  unfold pick
  repeat' split
  all_goals simp [assign]

theorem delivered_answers (generation : Byte) (slot : Nat) : AnswersItself (delivered generation slot) := by
  intro s
  unfold delivered
  repeat' split
  all_goals simp [sequenceFault]

/-! ### Every request -/

/-- The meaning of a request: a body that lets the Port Unit be and answers for itself. -/
structure Body (body : State → Reply × State) : Prop where
  ignores : IgnoresPortUnit body
  answers : AnswersItself body

/-- Every command with a header is the service of a body. -/
theorem exec_request {i : Instr} {h : Header} (hh : i.header = some h) :
    ∃ body, Body body ∧ ∀ s, exec i s = serve i body s := by
  cases i with
  | wallOpen tag wall length => exact ⟨_, ⟨wallOpen_ignores _ _, wallOpen_answers _ _⟩, fun _ => rfl⟩
  | wallClose tag wall => exact ⟨_, ⟨wallClose_ignores _, wallClose_answers _⟩, fun _ => rfl⟩
  | wallRead tag wall start => exact ⟨_, ⟨wallRead_ignores _ _, wallRead_answers _ _⟩, fun _ => rfl⟩
  | featureAdd tag wall xa xb zSill zHead => exact ⟨_, ⟨featureAdd_ignores _ _ _ _ _, featureAdd_answers _ _ _ _ _⟩, fun _ => rfl⟩
  | featureDrop tag feature => exact ⟨_, ⟨featureDrop_ignores _, featureDrop_answers _⟩, fun _ => rfl⟩
  | lintelSet tag feature topZ bearing => exact ⟨_, ⟨lintelSet_ignores _ _ _, lintelSet_answers _ _ _⟩, fun _ => rfl⟩
  | configKind tag kind length height bedDepth cmin lt => exact ⟨_, ⟨configKind_ignores _ _ _ _ _ _, configKind_answers _ _ _ _ _ _⟩, fun _ => rfl⟩
  | configProfile tag profile jn jmin jmax bn tOpen => exact ⟨_, ⟨configProfile_ignores _ _ _ _ _ _, configProfile_answers _ _ _ _ _ _⟩, fun _ => rfl⟩
  | configParamSawStep tag value => exact ⟨_, ⟨configSawStep_ignores _, configSawStep_answers _⟩, fun _ => rfl⟩
  | configParamMinimumLap tag value => exact ⟨_, ⟨configMinimumLap_ignores _, configMinimumLap_answers _⟩, fun _ => rfl⟩
  | configParamTolerance tag parameter value => exact ⟨_, ⟨configTolerance_ignores _ _, configTolerance_answers _ _⟩, fun _ => rfl⟩
  | configParamSetTime tag value => exact ⟨_, ⟨configSetTime_ignores _, configSetTime_answers _⟩, fun _ => rfl⟩
  | configParamDatumSkew tag value => exact ⟨_, ⟨configDatumSkew_ignores _, configDatumSkew_answers _⟩, fun _ => rfl⟩
  | configParamStrictReferences tag value => exact ⟨_, ⟨configStrictReferences_ignores _, configStrictReferences_answers _⟩, fun _ => rfl⟩
  | configParamEdgeSense tag parameter value => exact ⟨_, ⟨configEdgeSense_ignores _ _, configEdgeSense_answers _ _⟩, fun _ => rfl⟩
  | configRead tag table number => exact ⟨_, ⟨configRead_ignores _ _, configRead_answers _ _⟩, fun _ => rfl⟩
  | courseBegin tag wall kind profile runCount => exact ⟨_, ⟨courseBegin_ignores _ _ _ _, courseBegin_answers _ _ _ _⟩, fun _ => rfl⟩
  | runEntry tag start stop => exact ⟨_, ⟨runEntry_ignores _ _, runEntry_answers _ _⟩, fun _ => rfl⟩
  | courseAbandon tag => exact ⟨_, ⟨courseAbandon_ignores, courseAbandon_answers⟩, fun _ => rfl⟩
  | courseRetire tag wall number => exact ⟨_, ⟨courseRetire_ignores _ _, courseRetire_answers _ _⟩, fun _ => rfl⟩
  | courseRead tag wall number order => exact ⟨_, ⟨courseRead_ignores _ _ _, courseRead_answers _ _ _⟩, fun _ => rfl⟩
  | slotRead tag slot => exact ⟨_, ⟨slotRead_ignores _, slotRead_answers _⟩, fun _ => rfl⟩
  | accept tag slot => exact ⟨_, ⟨accept_ignores _, accept_answers _⟩, fun _ => rfl⟩
  | relay tag slot => exact ⟨_, ⟨relay_ignores _, relay_answers _⟩, fun _ => rfl⟩
  | runSlack tag wall number order => exact ⟨_, ⟨runSlack_ignores _ _ _, runSlack_answers _ _ _⟩, fun _ => rfl⟩
  | flush tag => exact ⟨_, ⟨flush_ignores, flush_answers⟩, fun _ => rfl⟩
  | queueRead tag => exact ⟨_, ⟨queueRead_ignores, queueRead_answers⟩, fun _ => rfl⟩
  | stationSet tag wall xLo xHi zHi => exact ⟨_, ⟨stationSet_ignores _ _ _ _, stationSet_answers _ _ _ _⟩, fun _ => rfl⟩
  | stationMove tag => exact ⟨_, ⟨stationMove_ignores, stationMove_answers⟩, fun _ => rfl⟩
  | stationRead tag => exact ⟨_, ⟨stationRead_ignores, stationRead_answers⟩, fun _ => rfl⟩
  | status tag => exact ⟨_, ⟨status_ignores, status_answers⟩, fun _ => rfl⟩
  | acknowledge tag reasons => exact ⟨_, ⟨acknowledge_ignores _, acknowledge_answers _⟩, fun _ => rfl⟩
  | enable tag enables => exact ⟨_, ⟨enable_ignores _, enable_answers _⟩, fun _ => rfl⟩
  | clearFault tag flag => exact ⟨_, ⟨clearFault_ignores _, clearFault_answers _⟩, fun _ => rfl⟩
  | captureRead tag capture => exact ⟨_, ⟨captureRead_ignores _, captureRead_answers _⟩, fun _ => rfl⟩
  | captureClear tag capture => exact ⟨_, ⟨captureClear_ignores _, captureClear_answers _⟩, fun _ => rfl⟩
  | next tag => exact ⟨_, ⟨next_ignores, next_answers⟩, fun _ => rfl⟩
  | placed tag slot => exact ⟨_, ⟨placed_ignores _, placed_answers _⟩, fun _ => rfl⟩
  | decline tag slot => exact ⟨_, ⟨decline_ignores _, decline_answers _⟩, fun _ => rfl⟩
  | measure tag slot xRight yOff zTop => exact ⟨_, ⟨measure_ignores _ _, measure_answers _ _⟩, fun _ => rfl⟩
  | absent tag slot => exact ⟨_, ⟨absent_ignores _, absent_answers _⟩, fun _ => rfl⟩
  | datum tag ox oy oz skew => exact ⟨_, ⟨datum_ignores _ _ _ _, datum_answers _ _ _ _⟩, fun _ => rfl⟩
  | pick tag kind gauged => exact ⟨_, ⟨pick_ignores _ _, pick_answers _ _⟩, fun _ => rfl⟩
  | delivered tag generation slot => exact ⟨_, ⟨delivered_ignores _ _, delivered_answers _ _⟩, fun _ => rfl⟩
  | loadInactivityTimeout | openJointExpiry | rawInputChange | armReadyFalling | armReadyRising | truckParkedFalling
  | truckParkedRising | groundShiftRising | groundShiftFalling | windHoldEdge | resetNFalling | linkReset |
  fullReset | fullResetRelease | powerUp | powerUpRelease | supplyFall | frameReceived | interByteTimeout |
  responseSent | stopBitLow | siteTimeIncrement => cases hh

end Sys2Proof.Machine
end

section
/-! One outstanding request for each port and room for its response (11 R185 to R187): what each change of the Port Unit does
to the count of a port's unanswered requests and to its transmit queue. -/

namespace Sys2Proof.Machine

/-! ### One port -/

/-- R185, R187: a port with the number of its requests that wait or are being served. -/
def PortFits (unanswered : Nat) (ps : PortState) : Prop :=
  unanswered + ps.closing = (if ps.outstanding then 1 else 0) ∧ ps.transmit.length + unanswered ≤ 4 ∧
    (ps.outstanding = false → ps.transmit.length ≤ 3)

theorem State.portInForm_iff (s : State) (port : Port) :
    s.portInForm port ↔ PortFits (s.unanswered port) (s.ports.get port) := Iff.rfl

theorem State.portsInForm_iff (s : State) :
    s.portsInForm ↔ (∀ port, PortFits (s.unanswered port) (s.ports.get port)) ∧ s.arbiterInForm := by
  constructor
  · rintro ⟨hp, ha, ht, hf, harbiter⟩
    refine ⟨fun port => ?_, harbiter⟩
    cases port
    · exact hp
    · exact ha
    · exact ht
    · exact hf
  · exact fun ⟨h, harbiter⟩ => ⟨h .p, h .a, h .t, h .f, harbiter⟩

section Port

variable {n : Nat} {ps : PortState}

/-- One more response at the tail of a transmit queue. -/
theorem PortState.closing_append (ps : PortState) (r : Response) :
    { ps with transmit := ps.transmit ++ [r] }.closing = ps.closing + if r.closes then 1 else 0 := by
  rw [PortState.closing, List.countP_append, List.countP_singleton]
  rfl

/-- R184: the receiver does not matter. -/
theorem PortFits.receiver (h : PortFits n ps) (r : Receiver) : PortFits n { ps with receiver := r } := h

/-- R185: a request comes to a port whose flag is clear. -/
theorem PortFits.enqueued (h : PortFits n ps) (hclear : ps.outstanding = false) (tag : Option Byte) :
    PortFits (n + 1) { ps with outstanding := true, lastTag := tag } := by
  obtain ⟨hcount, hroom, hidle⟩ := h
  rw [hclear, if_neg Bool.false_ne_true] at hcount
  refine ⟨?_, ?_, nofun⟩
  · change n + 1 + ps.closing = 1
    omega
  · have := hidle hclear
    dsimp only
    omega

/-- R185, R187: an OVERRUN answer is handed over, when there is room. -/
theorem PortFits.overrun (h : PortFits n ps) (ho : ps.outstanding = true) (hfits : ps.overrunFits = true) {r : Response}
    (hr : r.closes = false) : PortFits n { ps with transmit := ps.transmit ++ [r] } := by
  obtain ⟨hcount, hroom, -⟩ := h
  rw [ho, if_pos rfl] at hcount
  refine ⟨?_, ?_, fun hclear => by rw [ho] at hclear; cases hclear⟩
  · rw [PortState.closing_append, hr, ho]
    exact hcount
  · dsimp only
    rw [List.length_append, List.length_singleton]
    rcases (Bool.or_eq_true _ _).mp hfits with hshort | hlast
    · have := of_decide_eq_true hshort
      omega
    · obtain ⟨hthree, hcloses⟩ := (Bool.and_eq_true _ _).mp hlast
      have hthree := of_decide_eq_true hthree
      obtain ⟨r', hr', hc'⟩ := List.any_eq_true.mp hcloses
      have : 0 < ps.closing := List.countP_pos_iff.mpr ⟨r', hr', hc'⟩
      omega

/-- R187: the response to the request in service is handed over. -/
theorem PortFits.answered (h : PortFits (n + 1) ps) {r : Response} (hr : r.closes = true) :
    PortFits n { ps with transmit := ps.transmit ++ [r] } := by
  obtain ⟨hcount, hroom, -⟩ := h
  have ho : ps.outstanding = true := by
    by_contra hclear
    rw [if_neg hclear] at hcount
    omega
  refine ⟨?_, ?_, fun hclear => by rw [ho] at hclear; cases hclear⟩
  · rw [PortState.closing_append, hr, if_pos rfl]
    dsimp only
    omega
  · dsimp only
    rw [List.length_append, List.length_singleton]
    omega

/-- R185, R187: the response at the head has left. -/
theorem PortFits.left (h : PortFits n ps) {r : Response} {rest : List Response} (htransmit : ps.transmit = r :: rest) :
    PortFits n { ps with transmit := rest, outstanding := if r.closes then false else ps.outstanding } := by
  obtain ⟨hcount, hroom, hidle⟩ := h
  have hclosing : ps.closing = rest.countP Response.closes + if r.closes then 1 else 0 := by
    rw [PortState.closing, htransmit, List.countP_cons]
  rw [htransmit, List.length_cons] at hroom hidle
  rw [hclosing] at hcount
  cases hr : r.closes with
  | false =>
    simp only [hr, Bool.false_eq_true, if_false, Nat.add_zero] at hcount ⊢
    refine ⟨hcount, ?_, fun hclear => ?_⟩
    · dsimp only
      omega
    · have := hidle hclear
      dsimp only
      omega
  | true =>
    simp only [hr, if_true] at hcount ⊢
    have hone : n = 0 ∧ rest.countP Response.closes = 0 := by
      split at hcount <;> omega
    refine ⟨?_, ?_, fun _ => ?_⟩
    · change n + rest.countP Response.closes = 0
      omega
    · dsimp only
      omega
    · dsimp only
      omega

end Port

/-! ### The arbiter's choice (R186) -/

section Choice

/-- How many waiting requests came on a port. -/
def waitingOn (q : List Waiting) (port : Port) : Nat := q.countP fun w => cameOn w.request port

theorem takeFirst_perm {want : Waiting → Bool} {q : List Waiting} {w : Waiting} {rest : List Waiting}
    (h : takeFirst want q = some (w, rest)) : q.Perm (w :: rest) := by
  induction q generalizing rest with
  | nil => cases h
  | cons x q ih =>
    rw [takeFirst] at h
    split at h
    · cases h
      exact .refl _
    · obtain ⟨⟨w', rest'⟩, hrest, heq⟩ := Option.map_eq_some_iff.mp h
      cases heq
      exact ((ih hrest).cons _).trans (.swap _ _ _)

theorem takeFirst_none {want : Waiting → Bool} {q : List Waiting} (h : takeFirst want q = none) :
    ∀ w ∈ q, want w = false := by
  induction q with
  | nil => exact nofun
  | cons x q ih =>
    rw [takeFirst] at h
    split at h
    · cases h
    next hx =>
      intro w hw
      rcases List.mem_cons.mp hw with rfl | hw
      · exact Bool.eq_false_iff.mpr hx
      · exact ih (Option.map_eq_none_iff.mp h) w hw

@[simp] theorem Waiting.passed_request (w : Waiting) : w.passed.request = w.request := by
  unfold Waiting.passed
  split <;> rfl

theorem waitingOn_map_passed (q : List Waiting) (port : Port) : waitingOn (q.map Waiting.passed) port = waitingOn q port := by
  rw [waitingOn, List.countP_map]
  exact List.countP_congr fun w _ => by simp

theorem waitingOn_of_perm {q rest : List Waiting} {w : Waiting} (h : q.Perm (w :: rest)) (port : Port) :
    waitingOn q port = waitingOn rest port + if cameOn w.request port then 1 else 0 := by
  rw [waitingOn, h.countP_eq, List.countP_cons]
  rfl

/-- R186: the chosen request leaves the queue, whoever it is from, and no other does. -/
theorem choose_waitingOn {q rest : List Waiting} {i : Instr} (h : choose q = some (i, rest)) (port : Port) :
    waitingOn q port = waitingOn rest port + if cameOn i port then 1 else 0 := by
  unfold choose at h
  split at h
  next hplanner =>
    cases h
    exact waitingOn_of_perm (takeFirst_perm hplanner) port
  · split at h
    next hother =>
      cases h
      rw [waitingOn_map_passed]
      exact waitingOn_of_perm (takeFirst_perm hother) port
    · split at h
      · cases h
      · cases h
        exact waitingOn_of_perm (.refl _) port

theorem choose_eq_none {q : List Waiting} (h : choose q = none) : q = [] := by
  unfold choose at h
  split at h
  · cases h
  · split at h
    · cases h
    · split at h
      · rfl
      · cases h

/-- R186: none that waits is passed over more than 4 times. -/
theorem choose_passes {q rest : List Waiting} {i : Instr} (h : choose q = some (i, rest)) (hq : ∀ w ∈ q, w.passes ≤ 4) :
    ∀ w ∈ rest, w.passes ≤ 4 := by
  unfold choose at h
  split at h
  next hplanner =>
    cases h
    exact fun w hw => hq w ((takeFirst_perm hplanner).mem_iff.mpr (List.mem_cons_of_mem _ hw))
  next hnone =>
    split at h
    next hother =>
      cases h
      intro w' hw'
      obtain ⟨w, hw, rfl⟩ := List.mem_map.mp hw'
      have hmem := (takeFirst_perm hother).mem_iff.mpr (List.mem_cons_of_mem _ hw)
      unfold Waiting.passed
      split
      next hp =>
        have hfew := takeFirst_none hnone w hmem
        rw [hp, Bool.true_and, decide_eq_false_iff_not] at hfew
        dsimp only
        omega
      · exact hq w hmem
    · split at h
      · cases h
      · cases h
        exact fun w hw => hq w (List.mem_cons_of_mem _ hw)

end Choice

/-! ### The Port Unit -/

/-- The Port Unit's invariant while the arbiter has not yet chosen again. -/
structure State.PortsFit (s : State) : Prop where
  ports : ∀ port, PortFits (s.unanswered port) (s.ports.get port)
  passes : ∀ w ∈ s.inbound, w.passes ≤ 4

section Unit

variable {s t : State}

theorem State.portsInForm_of_portUnit (hports : t.ports = s.ports) (hinbound : t.inbound = s.inbound)
    (hserving : t.serving = s.serving) (h : s.portsInForm) : t.portsInForm := by
  obtain ⟨h, harbiter⟩ := (s.portsInForm_iff).mp h
  refine (t.portsInForm_iff).mpr ⟨fun port => ?_, ?_⟩
  · rw [State.unanswered, hports, hinbound, hserving]
    exact h port
  · rw [State.arbiterInForm, hinbound, hserving]
    exact harbiter

theorem State.portsInForm.fit (h : s.portsInForm) : s.PortsFit :=
  ⟨((s.portsInForm_iff).mp h).1, ((s.portsInForm_iff).mp h).2.2⟩

/-- R186: the arbiter chooses, and then requests wait only while one is served. -/
theorem State.PortsFit.arbitrate (h : s.PortsFit) : s.arbitrate.portsInForm := by
  rw [State.portsInForm_iff]
  unfold State.arbitrate
  split
  next i hserving =>
    have hbusy : s.serving ≠ none := by rw [hserving]; exact nofun
    exact ⟨h.ports, fun hnone => absurd hnone hbusy, h.passes⟩
  next hserving =>
    split
    next hnone => exact ⟨h.ports, fun _ => choose_eq_none hnone, h.passes⟩
    next i rest hchoice =>
      refine ⟨fun port => ?_, nofun, choose_passes hchoice h.passes⟩
      have hcount : s.unanswered port = waitingOn rest port + if cameOn i port then 1 else 0 := by
        rw [← choose_waitingOn hchoice, State.unanswered, hserving]
        rfl
      have hport := h.ports port
      rw [hcount] at hport
      exact hport

theorem cameOn_iff {i : Instr} {h : Header} (hh : i.header = some h) {port : Port} :
    cameOn i port = true ↔ port = h.port := by
  rw [cameOn, hh, Option.any_some, decide_eq_true_eq, eq_comm]

/-- One port of the Port Unit is changed. -/
theorem PortFits.of_put {ports : Ports} {unanswered : Port → Nat} {at' : Port} {ps : PortState}
    (hsame : PortFits (unanswered at') ps) (hother : ∀ port, port ≠ at' → PortFits (unanswered port) (ports.get port))
    (port : Port) : PortFits (unanswered port) ((ports.put at' ps).get port) := by
  by_cases hp : port = at'
  · rw [hp, Ports.get_put_same]
    exact hsame
  · rw [Ports.get_put_other _ _ hp]
    exact hother port hp

/-- R185: a request comes to a port whose flag is clear. -/
theorem State.PortsFit.enqueue (hs : s.PortsFit) {i : Instr} {h : Header} (hh : i.header = some h)
    (hclear : (s.ports.get h.port).outstanding = false) : (s.enqueue i h).PortsFit := by
  have hcount (port : Port) :
      (s.enqueue i h).unanswered port = s.unanswered port + if cameOn i port then 1 else 0 := by
    change (s.inbound ++ [_]).countP _ + _ = s.inbound.countP _ + _ + _
    rw [List.countP_append, List.countP_singleton]
    exact Nat.add_right_comm _ _ _
  constructor
  case ports =>
    refine PortFits.of_put ?_ fun port hp => ?_
    · rw [hcount, if_pos ((cameOn_iff hh).mpr rfl)]
      exact (hs.ports h.port).enqueued hclear _
    · rw [hcount, if_neg (mt (cameOn_iff hh).mp hp)]
      exact hs.ports port
  case passes =>
    intro w hw
    rcases List.mem_append.mp hw with hw | hw
    · exact hs.passes w hw
    · rw [List.mem_singleton.mp hw]
      exact Nat.zero_le 4

/-- R185: a request comes to a port that has one outstanding. -/
theorem State.overrun_portsInForm (hs : s.portsInForm) (h : Header) (ho : (s.ports.get h.port).outstanding = true) :
    (s.overrun h).portsInForm := by
  unfold State.overrun
  dsimp only
  refine State.portsInForm_of_portUnit (by rw [State.report_frame]) (by rw [State.report_frame])
    (by rw [State.report_frame]) ?_
  split
  next hfits =>
    obtain ⟨hports, harbiter⟩ := (s.portsInForm_iff).mp hs
    refine (State.portsInForm_iff _).mpr ⟨PortFits.of_put ?_ fun port _ => hports port, harbiter⟩
    refine (hports h.port).overrun ho hfits ?_
    rw [Response.closes, State.withSummary]
    split <;> rfl
  · exact hs

/-- R185, R186: a request arrives. -/
theorem State.arrive_portsInForm (hs : s.portsInForm) {i : Instr} {h : Header} (hh : i.header = some h) :
    (s.arrive i h).portsInForm := by
  cases ho : (s.ports.get h.port).outstanding with
  | true =>
    rw [State.arrive_of_outstanding _ _ _ ho]
    exact State.overrun_portsInForm hs h ho
  | false =>
    rw [State.arrive_of_clear _ _ _ ho]
    exact (hs.fit.enqueue hh ho).arbitrate

theorem State.withSummary_answer (s : State) (port : Port) (r : Reply) : (s.withSummary port r).answer = r.answer := by
  unfold State.withSummary
  split <;> rfl

/-- R186, R187: a service ends with a response that is no OVERRUN answer. -/
theorem State.conclude_portsInForm (hs : s.portsInForm) {i : Instr} {h : Header} (hh : i.header = some h)
    (hserving : s.serving = some i) {r : Reply} (hr : r.answer ≠ .overrun) : (s.conclude h r).portsInForm := by
  refine State.PortsFit.arbitrate ⟨PortFits.of_put ?_ fun port hp => ?_, hs.fit.passes⟩
  · have hport := hs.fit.ports h.port
    rw [State.unanswered, hserving, Option.any_some, if_pos ((cameOn_iff hh).mpr rfl)] at hport
    refine hport.answered ?_
    rw [Response.closes, State.withSummary_answer]
    exact decide_eq_true hr
  · have hport := hs.fit.ports port
    rw [State.unanswered, hserving, Option.any_some, if_neg (mt (cameOn_iff hh).mp hp)] at hport
    exact hport

theorem Body.portUnit {body : State → Reply × State} (hbody : Body body) (s : State) :
    (body s).2 = (body s).2.withPortUnitOf s := (Prod.ext_iff.mp (hbody.ignores s s)).2

/-- R185 to R187: a request keeps the Port Unit in form. -/
theorem serve_portsInForm {i : Instr} {body : State → Reply × State} (hbody : Body body) (hs : s.portsInForm)
    (ht : serve i body s = .next t) : t.portsInForm := by
  unfold serve at ht
  split at ht
  · cases ht
    exact hs
  next h hh =>
    split at ht
    · cases ht
      exact hs
    · have hpresented : (s.presented i h).portsInForm := by
        unfold State.presented
        split
        · exact hs
        · exact State.arrive_portsInForm hs hh
      dsimp only at ht
      split at ht
      next hserving =>
        cases ht
        have hunit := hbody.portUnit (s.presented i h)
        refine State.conclude_portsInForm ?_ hh ?_ (hbody.answers _)
        · rw [hunit]
          exact State.portsInForm_of_portUnit rfl rfl rfl hpresented
        · rw [hunit]
          exact hserving
      · cases ht
        exact hpresented

/-! ### Bytes and responses (R184, R187) -/

theorem State.setReceiver_portsInForm (hs : s.portsInForm) (port : Port) (r : Receiver) :
    (s.setReceiver port r).portsInForm := by
  obtain ⟨hports, harbiter⟩ := (s.portsInForm_iff).mp hs
  exact (State.portsInForm_iff _).mpr ⟨PortFits.of_put (hports port) fun port _ => hports port, harbiter⟩

theorem State.receiveByte_portsInForm (hs : s.portsInForm) (port : Port) (b : Byte) :
    (s.receiveByte port b).portsInForm := by
  have hset := fun r => State.setReceiver_portsInForm hs port r
  unfold State.receiveByte
  dsimp only
  split
  · exact hset _
  · unfold State.handOn
    split
    · exact hset _
    · split
      · exact hset _
      next h hh => exact State.arrive_portsInForm (hset _) hh

theorem receive_portsInForm (port : Port) (bytes : List Byte) (hs : s.portsInForm) :
    (receive port bytes s).portsInForm := by
  induction bytes generalizing s with
  | nil => exact hs
  | cons b bytes ih => exact ih (State.receiveByte_portsInForm hs port b)

theorem responseLeft_portsInForm (port : Port) (hs : s.portsInForm) : (responseLeft port s).portsInForm := by
  unfold responseLeft
  dsimp only
  split
  · exact hs
  next r rest htransmit =>
    obtain ⟨hports, harbiter⟩ := (s.portsInForm_iff).mp hs
    exact (State.portsInForm_iff _).mpr
      ⟨PortFits.of_put ((hports port).left htransmit) fun port _ => hports port, harbiter⟩

end Unit

end Sys2Proof.Machine
end

section
/-! The events and the Port Unit (06, 08, 10, 11): only bytes, responses and resets reach it. With the requests this settles
what every step keeps of the ports (O60), and that every command ends in a next state (O2). -/

namespace Sys2Proof.Machine

/-! ### Events that let the Port Unit be -/

/-- The Port Unit of two states is the same. -/
structure State.SamePorts (s t : State) : Prop where
  ports : t.ports = s.ports
  inbound : t.inbound = s.inbound
  serving : t.serving = s.serving

theorem State.SamePorts.refl (s : State) : s.SamePorts s := ⟨rfl, rfl, rfl⟩

theorem State.SamePorts.trans {s t u : State} (h : s.SamePorts t) (h' : t.SamePorts u) : s.SamePorts u :=
  ⟨h'.ports.trans h.ports, h'.inbound.trans h.inbound, h'.serving.trans h.serving⟩

theorem State.SamePorts.portsInForm {s t : State} (h : s.SamePorts t) (hs : s.portsInForm) : t.portsInForm :=
  State.portsInForm_of_portUnit h.ports h.inbound h.serving hs

theorem State.report_samePorts (s : State) (r : Report) : s.SamePorts (s.report r) := by
  rw [State.report_frame]
  exact ⟨rfl, rfl, rfl⟩

theorem State.dropLoad_samePorts (s : State) : s.SamePorts s.dropLoad := by
  rw [State.dropLoad_frame]
  exact ⟨rfl, rfl, rfl⟩

theorem loadTimeout_samePorts (s : State) : s.SamePorts (loadTimeout s) := by
  unfold loadTimeout
  split
  · exact .refl s
  · split
    · exact s.dropLoad_samePorts.trans (State.report_samePorts _ _)
    · exact .refl s

theorem jointExpiry_samePorts (run : Nat) (s : State) : s.SamePorts (jointExpiry run s) := by
  unfold jointExpiry
  split
  · exact .refl s
  · split
    · exact .refl s
    · split
      · dsimp only
        split <;> exact ⟨rfl, rfl, rfl⟩
      · exact .refl s

theorem rawChange_samePorts (line : Line) (asserted : Bool) (s : State) : s.SamePorts (rawChange line asserted s) := by
  unfold rawChange
  dsimp only
  split
  · exact .refl s
  · split <;> exact ⟨rfl, rfl, rfl⟩

theorem edge_samePorts (line : Line) (rising : Bool) {effect : State → State} (heffect : ∀ u : State, u.SamePorts (effect u))
    (s : State) : s.SamePorts (edge line rising effect s) := by
  unfold edge
  dsimp only
  split
  · have haccepted : s.SamePorts (s.acceptLevel line) := ⟨rfl, rfl, rfl⟩
    refine haccepted.trans ((heffect _).trans ?_)
    rw [State.judgeEdge_frame]
    exact ⟨rfl, rfl, rfl⟩
  · exact .refl s

theorem loseSight_samePorts (s : State) : s.SamePorts (loseSight s) := by
  rw [loseSight_frame]
  exact ⟨rfl, rfl, rfl⟩

theorem parkLost_samePorts (s : State) : s.SamePorts (parkLost s) := by
  by_cases huse : s.station.state.inUse = true
  · rw [parkLost_of_inUse huse]
    have hlost : s.SamePorts s.stationLost := by
      rw [State.stationLost, State.report_frame]
      exact ⟨rfl, rfl, rfl⟩
    exact hlost.trans (loseSight_samePorts _)
  · rw [parkLost_of_notInUse huse]
    exact .refl s

theorem groundShift_samePorts (s : State) : s.SamePorts (groundShift s) := by
  unfold groundShift
  split <;> exact ⟨rfl, rfl, rfl⟩

/-! ### Resets -/

/-- R180, R188: ports without a request and without a response. -/
theorem State.portsInForm_of_idle {s : State}
    (hports : s.ports = { p := PortState.idle, a := PortState.idle, t := PortState.idle, f := PortState.idle })
    (hinbound : s.inbound = []) (hserving : s.serving = none) : s.portsInForm := by
  refine (s.portsInForm_iff).mpr ⟨fun port => ?_, ?_⟩
  · rw [State.unanswered, hports, hinbound, hserving]
    cases port <;> exact ⟨rfl, by decide, fun _ => by decide⟩
  · rw [State.arbiterInForm, hinbound, hserving]
    exact ⟨fun _ => rfl, nofun⟩

theorem fullResetEffect_portsInForm (hold : Hold) (s : State) : (fullResetEffect hold s).portsInForm :=
  State.portsInForm_of_idle rfl rfl rfl

theorem risingAfter_portsInForm (lowMicros : Nat) {s : State} (hs : s.portsInForm) :
    (risingAfter lowMicros s).portsInForm := by
  unfold risingAfter
  split
  · exact hs
  · split
    · split
      · exact hs
      · exact State.portsInForm_of_idle rfl rfl rfl
    · exact hs
    · exact hs

theorem lowReaches20ms_portsInForm {s : State} (hs : s.portsInForm) : (lowReaches20ms s).portsInForm := by
  unfold lowReaches20ms
  split
  · exact fullResetEffect_portsInForm _ s
  · exact hs

theorem risingAfterFullReset_samePorts (sawPin : Bool) (s : State) : s.SamePorts (risingAfterFullReset sawPin s) := by
  unfold risingAfterFullReset
  split
  · exact .refl s
  · split <;> exact ⟨rfl, rfl, rfl⟩

theorem supplyRelease_samePorts (sawPin : Bool) (s : State) : s.SamePorts (supplyRelease sawPin s) := by
  unfold supplyRelease
  split <;> exact ⟨rfl, rfl, rfl⟩

/-! ### What a command is -/

/-- A command is the service of a request, an event that a held part does not take, or a change at a pin or the supply. -/
inductive Command (i : Instr) (s : State) : Prop
  | request (h : Header) (body : State → Reply × State) (hh : i.header = some h) (hbody : Body body)
      (hx : exec i s = serve i body s)
  | event (effect : State → State) (hunit : s.portsInForm → (effect s).portsInForm) (hx : exec i s = event effect s)
  | pin (t : State) (hunit : s.portsInForm → t.portsInForm) (hx : exec i s = .next t) (hacts : actsWhileHeld i = true)

/-- What each command is, by its header. -/
theorem command (i : Instr) (s : State) : Command i s := by
  cases hh : i.header with
  | some h =>
    obtain ⟨body, hbody, hx⟩ := exec_request hh
    exact .request h body hh hbody (hx s)
  | none =>
    cases i with
    | loadInactivityTimeout => exact .event _ (loadTimeout_samePorts s).portsInForm rfl
    | openJointExpiry run => exact .event _ (jointExpiry_samePorts run s).portsInForm rfl
    | rawInputChange line asserted => exact .pin _ (rawChange_samePorts line asserted s).portsInForm rfl rfl
    | armReadyFalling => exact .event _ (edge_samePorts _ _ loseSight_samePorts s).portsInForm rfl
    | armReadyRising => exact .event _ (edge_samePorts _ _ .refl s).portsInForm rfl
    | truckParkedFalling => exact .event _ (edge_samePorts _ _ parkLost_samePorts s).portsInForm rfl
    | truckParkedRising => exact .event _ (edge_samePorts _ _ .refl s).portsInForm rfl
    | groundShiftRising => exact .event _ (edge_samePorts _ _ groundShift_samePorts s).portsInForm rfl
    | groundShiftFalling => exact .event _ (edge_samePorts _ _ .refl s).portsInForm rfl
    | windHoldEdge => exact .event _ (edge_samePorts _ _ .refl s).portsInForm rfl
    | resetNFalling => exact .pin { s with resetN := false } id rfl rfl
    | linkReset lowMicros => exact .pin _ (risingAfter_portsInForm lowMicros) rfl rfl
    | fullReset => exact .pin _ lowReaches20ms_portsInForm rfl rfl
    | fullResetRelease sawPin => exact .pin _ (risingAfterFullReset_samePorts sawPin s).portsInForm rfl rfl
    | powerUp => exact .pin _ (fun _ => fullResetEffect_portsInForm _ s) rfl rfl
    | powerUpRelease sawPin => exact .pin _ (supplyRelease_samePorts sawPin s).portsInForm rfl rfl
    | supplyFall => exact .pin _ (fun _ => fullResetEffect_portsInForm _ s) rfl rfl
    | frameReceived port bytes => exact .event _ (receive_portsInForm port bytes) rfl
    | interByteTimeout port => exact .event _ (fun hs => State.setReceiver_portsInForm hs port .hunt) rfl
    | responseSent port => exact .event _ (responseLeft_portsInForm port) rfl
    | stopBitLow port => exact .event _ (fun hs => State.setReceiver_portsInForm hs port .hunt) rfl
    | siteTimeIncrement => exact .event tick id rfl
    | _ => cases hh

/-- Settles O60: a request, an event and a change at a pin each keep the ports in form. -/
theorem stepKeepsThePortsInForm : Obligations.StepKeepsThePortsInForm := by
  intro s t hs ht
  unfold step at ht
  split at ht
  · cases ht
    exact hs
  next i rest _ =>
    have hs' : ({ s with pending := rest } : State).portsInForm := State.portsInForm_of_portUnit rfl rfl rfl hs
    cases command i { s with pending := rest } with
    | request h body hh hbody hx => exact serve_portsInForm hbody hs' (hx.symm.trans ht)
    | event effect hunit hx => exact event_keeps hunit hs' (hx.symm.trans ht)
    | pin u hunit hx hacts =>
      cases hx.symm.trans ht
      exact hunit hs'

/-! ### Every command ends -/

theorem serve_next (i : Instr) (body : State → Reply × State) (s : State) : ∃ t, serve i body s = .next t := by
  unfold serve
  split
  · exact ⟨_, rfl⟩
  · split
    · exact ⟨_, rfl⟩
    · dsimp only
      split <;> exact ⟨_, rfl⟩

theorem event_next (effect : State → State) (s : State) : ∃ t, event effect s = .next t := by
  unfold event
  split <;> exact ⟨_, rfl⟩

/-- No change of the records touches the queue of waiting commands. -/
theorem RecordChange.pending {s t : State} (h : RecordChange s t) : t.pending = s.pending := by
  cases h with
  | same h => exact State.pending_of_records h
  | reset h => exact State.pending_of_records (s := { State.reset with pending := s.pending }) h
  | featureLinked => rw [State.linkFeature_frame]
  | featureDropped => rw [State.relink_frame]
  | committed => rw [allocate_frame]
  | loadDropped => rw [State.dropLoad_frame]
  | wallOpened | wallClosed | lintelPlaced | kindDefined | profileDefined | loadOpened | runReceived | retired | slotMoved
  | sightLost | runMoved | completed | fed | delivered | flushed | issued | placed => rfl

/-- Settles O2: every command is one of three kinds, each of which ends in a next state, and a held part takes only those
at the pins and the supply. -/
theorem everyCommandEndsInANextState : Obligations.EveryCommandEndsInANextState := by
  intro i s
  have hpending {t : State} (ht : exec i s = .next t) : t.pending = s.pending :=
    (exec_recordSteps i ht).keeps (P := fun u => u.pending = s.pending) (fun _ _ h hu => h.pending.trans hu) rfl
  have hheld (hhold : s.hold ≠ .running) : s.held = true := decide_eq_true hhold
  cases command i s with
  | request h body hh hbody hx =>
    obtain ⟨t, ht⟩ := serve_next i body s
    exact ⟨⟨t, hx.trans ht, hpending (hx.trans ht)⟩, fun hhold _ => hx.trans (serve_of_held i body s (hheld hhold))⟩
  | event effect hunit hx =>
    obtain ⟨t, ht⟩ := event_next effect s
    exact ⟨⟨t, hx.trans ht, hpending (hx.trans ht)⟩, fun hhold _ => hx.trans (event_of_held effect s (hheld hhold))⟩
  | pin t hunit hx hacts =>
    exact ⟨⟨t, hx, hpending hx⟩, fun _ hnot => absurd (hacts.symm.trans hnot) (by decide)⟩

end Sys2Proof.Machine
end

section
/-! The step, the full reset, and the life of a request at its port and at the arbiter (O1, O3, O4, O5, O10, O55). -/

namespace Sys2Proof.Machine

/-- Settles O1: the step is the dispatch of the front command. -/
theorem stepRunsTheFrontCommand : Obligations.StepRunsTheFrontCommand := ⟨fun _ _ _ => rfl, fun _ => rfl⟩

/-- Settles O10: every table and every queue of the reset state is empty. -/
theorem resetMeetsTheInvariants : Obligations.ResetMeetsTheInvariants := by
  have htables : State.reset.tablesCanonical :=
    ⟨Table.canonical_nil _ _, Table.canonical_nil _ _, Table.canonical_nil _ _, Table.canonical_nil _ _,
      Table.canonical_nil _ _, Table.canonical_nil _ _, Table.canonical_nil _ _⟩
  refine ⟨htables, State.queueInForm_of_empty rfl, Nat.zero_le _, rfl, ⟨nofun, nofun⟩,
    State.portsInForm_of_idle rfl rfl rfl, ?_, ?_, ?_⟩
  · exact (State.Linked.of_empty rfl rfl rfl).recordsLinked htables
  · exact (queueInStep_iff htables).mpr (State.InStep.of_empty rfl rfl)
  · exact (chainsLinked_iff htables.1 htables.2.1).mpr ⟨_, State.chainsAre_of_empty rfl rfl⟩

/-! ### The full reset and its release (R180, R181) -/

theorem reset_atFullResetValues : State.reset.AtFullResetValues where
  walls := rfl
  features := rfl
  kinds := rfl
  profiles := rfl
  geometry := ⟨rfl, rfl⟩
  tolerances := ⟨rfl, rfl, rfl, rfl, rfl⟩
  others := ⟨rfl, rfl, rfl⟩
  courses := rfl
  load := rfl
  runs := rfl
  slots := rfl
  queue := ⟨rfl, rfl⟩
  station := rfl
  senses line := by cases line <;> rfl
  siteTime := rfl
  flags flag := by cases flag <;> rfl
  captures := ⟨rfl, rfl⟩
  reasons := rfl
  enables := by decide
  outputs := ⟨rfl, rfl⟩
  ports port := by cases port <;> rfl
  arbiter := ⟨rfl, rfl⟩

/-- R180: the full reset keeps the levels at the pins. -/
theorem fullResetEffect_raw (hold : Hold) (s : State) (line : Line) :
    ((fullResetEffect hold s).filters.get line).raw = (s.filters.get line).raw := by
  cases line <;> rfl

theorem fullResetEffect_atFullResetValues (hold : Hold) (s : State) : (fullResetEffect hold s).AtFullResetValues :=
  { reset_atFullResetValues with }

/-- R180, R181: the release takes both levels of each filter from its pin. -/
theorem release_filters (pin : Bool) (s : State) (line : Line) :
    (release pin s).filters.get line = (s.filters.get line).released := by
  cases line <;> rfl

/-- Settles O55: the reset state, each way into a full reset, each way out. -/
theorem fullResetAndRelease : Obligations.FullResetAndRelease := by
  refine ⟨reset_atFullResetValues, fun i hold s hcase => ?_, fun i pin s hcase => ?_⟩
  · have hx : exec i s = .next (fullResetEffect hold s) := by
      rcases hcase with ⟨rfl, hlow, hrunning, rfl⟩ | ⟨rfl | rfl, rfl⟩
      · exact congrArg _ (if_pos ⟨hlow, hrunning⟩)
      · rfl
      · rfl
    exact ⟨_, hx, fullResetEffect_atFullResetValues hold s, rfl, rfl, rfl, fullResetEffect_raw hold s, rfl⟩
  · have hx : exec i s = .next (release pin { s with resetN := true }) := by
      rcases hcase with ⟨rfl, hlow, hhold⟩ | ⟨rfl, hhigh, hhold⟩
      · change Host.Outcome.next (risingAfterFullReset pin s) = _
        rw [risingAfterFullReset, if_neg (by simp [hlow]), hhold]
      · change Host.Outcome.next (supplyRelease pin s) = _
        rw [supplyRelease, if_pos ⟨hhold, hhigh⟩, ← hhigh]
    refine ⟨_, hx, rfl, rfl, fun line => ?_, rfl⟩
    rw [release_filters]
    exact ⟨rfl, rfl⟩

/-! ### Arrivals (R185 to R187) -/

section Arrive

variable {i : Instr} {h : Header} {s : State}

theorem State.held_of_running (hrunning : s.hold = .running) : s.held = false := by
  simp [State.held, hrunning]

theorem State.presented_of_new (hserving : s.serving ≠ some i) (hwaiting : s.isWaiting i = false) :
    s.presented i h = s.arrive i h := by
  simp [State.presented, hserving, hwaiting]

/-- A request that is not served when it is presented. -/
theorem exec_of_presented (hh : i.header = some h) (hrunning : s.hold = .running)
    (hserving : (s.presented i h).serving ≠ some i) : exec i s = .next (s.presented i h) := by
  obtain ⟨body, -, hx⟩ := exec_request hh
  refine (hx s).trans (serve_of_not_serves i h body s hh (State.held_of_running hrunning) ?_)
  simp [State.serves, hh, hserving]

/-- R186: a request that waits alone is chosen, whoever it is from. -/
theorem choose_alone {w : Waiting} : choose [w] = some (w.request, []) := by
  unfold choose takeFirst takeFirst
  cases hp : w.isPlanner with
  | true => by_cases h4 : 4 ≤ w.passes <;> simp [h4]
  | false => simp

theorem State.presented_of_idle (hserving : s.serving = none) (hinbound : s.inbound = [])
    (hclear : (s.ports.get h.port).outstanding = false) :
    s.presented i h =
      { s with
        serving := some i
        ports := s.ports.put h.port { s.ports.get h.port with outstanding := true, lastTag := some h.tag } } := by
  have hnew : s.isWaiting i = false := by simp [State.isWaiting, hinbound]
  have hidle : (s.enqueue i h).serving = none := hserving
  have hqueue : (s.enqueue i h).inbound = [{ request := i, passes := 0 }] := by
    rw [State.enqueue, hinbound]
    rfl
  rw [State.presented_of_new (by simp [hserving]) hnew, State.arrive_of_clear _ _ _ hclear,
    State.arbitrate_of_idle _ hidle, hqueue, nextChoice, choose_alone, ← hinbound]
  rfl

theorem State.overrunFits_iff (ps : PortState) :
    ps.overrunFits = true ↔ ¬ (4 ≤ ps.transmit.length ∨
      (ps.transmit.length = 3 ∧ ∀ r ∈ ps.transmit, r.reply.answer = .overrun)) := by
  simp only [PortState.overrunFits, Response.closes, Bool.or_eq_true, Bool.and_eq_true, decide_eq_true_eq,
    List.any_eq_true, not_or, not_and, not_forall, exists_prop]
  constructor
  · rintro (hlt | ⟨hthree, r, hr, hne⟩)
    · exact ⟨by omega, fun _ => by omega⟩
    · exact ⟨by omega, fun _ => ⟨r, hr, hne⟩⟩
  · rintro ⟨hlt, hrest⟩
    by_cases hthree : ps.transmit.length = 3
    · exact .inr ⟨hthree, hrest hthree⟩
    · exact .inl (by omega)

/-- R185: the report of an OVERRUN. -/
def overrunReport (h : Header) : Report :=
  { flag := .overrun, severity := 1, slot := none, course := none, port := some h.port, detail := h.tag.toNat }

/-- R185, R187: the port of a request that is answered OVERRUN, when there is room. -/
theorem State.overrun_eq (s : State) (h : Header) :
    s.overrun h =
      State.report
        { s with
          ports := s.ports.put h.port
            { s.ports.get h.port with
              transmit := (s.ports.get h.port).transmit ++
                if 4 ≤ (s.ports.get h.port).transmit.length ∨
                    ((s.ports.get h.port).transmit.length = 3 ∧
                      ∀ r ∈ (s.ports.get h.port).transmit, r.reply.answer = .overrun) then []
                else
                  [{ tag := h.tag, code := h.code
                     reply := s.withSummary h.port (Reply.plain .overrun [(s.ports.get h.port).lastTag.getD 0]) }] } }
        (overrunReport h) := by
  unfold State.overrun overrunReport
  dsimp only
  by_cases hfits : (s.ports.get h.port).overrunFits = true
  · rw [if_pos hfits, if_neg ((State.overrunFits_iff _).mp hfits)]
    rfl
  · rw [if_neg hfits, if_pos (not_not.mp (mt (State.overrunFits_iff _).mpr hfits)), List.append_nil, Ports.put_get]

/-- Settles O3: the four ways in which an arriving request finds its port. -/
theorem requestsArrive : Obligations.RequestsArrive := by
  intro i h s hh hrunning
  refine ⟨fun hserving hinbound hclear => ?_, fun hbusy hserving hwaiting hclear => ?_,
    fun hserving hwaiting ho => ?_, fun hserving hwaiting => ?_⟩
  · have hpresented := State.presented_of_idle (i := i) hserving hinbound hclear
    refine ⟨?_, hpresented⟩
    simp [State.serves, hh, hpresented, State.held_of_running hrunning]
  · have hpresented : s.presented i h = s.enqueue i h := by
      obtain ⟨j, hj⟩ := Option.ne_none_iff_exists'.mp hbusy
      rw [State.presented_of_new hserving hwaiting, State.arrive_of_clear _ _ _ hclear]
      exact State.arbitrate_of_serving _ (i := j) hj
    rw [exec_of_presented hh hrunning (by rw [hpresented]; exact hserving), hpresented]
    rfl
  · have hpresented : s.presented i h = s.overrun h := by
      rw [State.presented_of_new hserving hwaiting, State.arrive_of_outstanding _ _ _ ho]
    refine ⟨s.overrun h, ?_, ?_⟩
    · rw [exec_of_presented hh hrunning, hpresented]
      rw [hpresented, State.overrun_frame]
      exact hserving
    · rw [State.overrun_eq, State.report_eq]
      refine ⟨rfl, rfl, rfl, ?_⟩
      simp [overrunReport, FaultFlag.reason, State.deriveOutputs]
  · have hpresented : s.presented i h = s := by simp [State.presented, hwaiting]
    rw [exec_of_presented hh hrunning (by rwa [hpresented]), hpresented]

end Arrive

/-! ### Responses (R183, R185, R187) -/

theorem crcByte_eq (c : BitVec 16) (b : Byte) :
    crcByte c b =
      (List.range 8).foldl (fun c _ => if c.msb then (c <<< 1) ^^^ 0x1021 else c <<< 1)
        (c ^^^ BitVec.ofNat 16 (256 * b.toNat)) := by
  have hhigh : (b ++ (0 : BitVec 8) : BitVec 16) = BitVec.ofNat 16 (256 * b.toNat) := by
    apply BitVec.eq_of_toNat_eq
    rw [BitVec.toNat_append, BitVec.toNat_ofNat]
    have := b.isLt
    simp [Nat.shiftLeft_eq]
    omega
  rw [crcByte, hhigh]
  rfl

theorem bytes16_eq (v : BitVec 16) : bytes16 v = [BitVec.ofNat 8 (v.toNat / 256), BitVec.ofNat 8 v.toNat] := by
  have hhigh : v.extractLsb' 8 8 = BitVec.ofNat 8 (v.toNat / 256) := by
    apply BitVec.eq_of_toNat_eq
    simp [BitVec.extractLsb'_toNat, Nat.shiftRight_eq_div_pow]
  rw [bytes16, hhigh]
  rfl

theorem frameBytes_eq (tag : Byte) (code : Nat) (payload : List Byte) :
    frameBytes tag code payload =
      sync :: ((tag :: BitVec.ofNat 8 code :: BitVec.ofNat 8 payload.length :: payload) ++
        [BitVec.ofNat 8 ((crc (tag :: BitVec.ofNat 8 code :: BitVec.ofNat 8 payload.length :: payload)).toNat / 256),
          BitVec.ofNat 8 (crc (tag :: BitVec.ofNat 8 code :: BitVec.ofNat 8 payload.length :: payload)).toNat]) := by
  rw [frameBytes, bytes16_eq]

/-- Settles O4: the head of a transmit queue leaves; the bytes of a response; the codes; the CRC. -/
theorem responseSentFreesThePort : Obligations.ResponseSentFreesThePort := by
  refine ⟨fun port s hrunning => ⟨fun r rest htransmit => ?_, fun hempty => ?_⟩, ?_, rfl, rfl, rfl, fun bytes b => ?_, ?_⟩
  · have hsent : exec (.responseSent port) s = .next (responseLeft port s) :=
      event_of_running _ s (State.held_of_running hrunning)
    rw [hsent, responseLeft, htransmit]
    by_cases hoverrun : r.reply.answer = .overrun <;> simp [Response.closes, hoverrun]
  · have hsent : exec (.responseSent port) s = .next (responseLeft port s) :=
      event_of_running _ s (State.held_of_running hrunning)
    rw [hsent, responseLeft, hempty]
  · rintro tag code answer reason detail body rfl
    have hlength : ([BitVec.ofNat 8 answer.value, BitVec.ofNat 8 reason.value] ++ detail).length = 2 + detail.length := by
      rw [List.length_append]
      rfl
    rw [Response.frame, frameBytes_eq]
    change sync :: (_ ++ _) = _
    rw [show ({ answer := answer, reason := reason, detail := detail } : Reply).payload =
      [BitVec.ofNat 8 answer.value, BitVec.ofNat 8 reason.value] ++ detail from rfl, hlength]
    rfl
  · rw [crc, List.foldl_append, ← crc, List.foldl_cons, List.foldl_nil, crcByte_eq]
  · decide +kernel

/-! ### The arbiter (R186) -/

section Arbiter

variable {want : Waiting → Bool} {before after : List Waiting} {w : Waiting} {s : State}

theorem takeFirst_of_split (hbefore : ∀ x ∈ before, want x = false) (hw : want w = true) :
    takeFirst want (before ++ w :: after) = some (w, before ++ after) := by
  induction before with
  | nil => simp [takeFirst, hw]
  | cons x before ih =>
    rw [List.cons_append, takeFirst, if_neg (by simp [hbefore x List.mem_cons_self]),
      ih fun y hy => hbefore y (List.mem_cons_of_mem _ hy)]
    rfl

theorem takeFirst_of_none {q : List Waiting} (h : ∀ x ∈ q, want x = false) : takeFirst want q = none := by
  induction q with
  | nil => rfl
  | cons x q ih =>
    rw [takeFirst, if_neg (by simp [h x List.mem_cons_self]), ih fun y hy => h y (List.mem_cons_of_mem _ hy)]
    rfl

/-- R186: a planner request passed over 4 times is chosen. -/
theorem choose_of_planner (hw : w.isPlanner = true) (hpasses : w.passes = 4)
    (hothers : ∀ x ∈ before ++ after, x.isPlanner = false) :
    choose (before ++ w :: after) = some (w.request, before ++ after) := by
  unfold choose
  rw [takeFirst_of_split (fun x hx => by simp [hothers x (List.mem_append_left _ hx)]) (by simp [hw, hpasses])]

/-- R186: the oldest request from A, T or F is chosen, and a planner request that waits is passed over. -/
theorem choose_of_other (hw : w.isPlanner = false) (hbefore : ∀ x ∈ before, x.isPlanner = true)
    (hfew : ∀ x ∈ before ++ after, x.isPlanner = true → x.passes < 4) :
    choose (before ++ w :: after) = some (w.request, (before ++ after).map Waiting.passed) := by
  have hnone : takeFirst (fun w => w.isPlanner && decide (4 ≤ w.passes)) (before ++ w :: after) = none := by
    refine takeFirst_of_none fun x hx => ?_
    have hx' : x ∈ before ++ after ∨ x = w := by
      rw [List.mem_append, List.mem_cons] at hx
      rw [List.mem_append]
      tauto
    rcases hx' with hx' | rfl
    · cases hp : x.isPlanner with
      | false => rfl
      | true => simpa using hfew x hx' hp
    · simp [hw]
  unfold choose
  rw [hnone, takeFirst_of_split (fun x hx => by simp [hbefore x hx]) (by simp [hw])]

theorem State.arbitrate_of_choice (hidle : s.serving = none) {i : Instr} {rest : List Waiting}
    (hchoice : choose s.inbound = some (i, rest)) : s.arbitrate = { s with serving := some i, inbound := rest } := by
  rw [State.arbitrate_of_idle s hidle, nextChoice, hchoice]

/-- Settles O5: the arbiter's choice by what stands in the inbound queue. -/
theorem arbiterPassesThePlannerFourTimes : Obligations.ArbiterPassesThePlannerFourTimes := by
  refine ⟨fun before after w s hidle hinbound => ⟨fun hcase => ?_, fun hw hbefore hfew => ?_⟩, fun s hcase => ?_,
    fun w s hidle hplanners hpasses => ?_⟩
  · rcases hcase with ⟨hw, hfour, hothers⟩ | ⟨-, -, halone⟩
    · exact State.arbitrate_of_choice hidle (hinbound ▸ choose_of_planner hw hfour hothers)
    · obtain ⟨rfl, rfl⟩ := List.append_eq_nil_iff.mp halone
      exact State.arbitrate_of_choice hidle (hinbound ▸ choose_alone)
  · exact State.arbitrate_of_choice hidle (hinbound ▸ choose_of_other hw hbefore hfew)
  · rcases hcase with hbusy | hempty
    · obtain ⟨i, hi⟩ := Option.ne_none_iff_exists'.mp hbusy
      exact State.arbitrate_of_serving s hi
    · cases hserving : s.serving with
      | some i => exact State.arbitrate_of_serving s hserving
      | none =>
        unfold State.arbitrate
        rw [hserving, hempty]
        rfl
  · obtain ⟨before, after, hinbound, hbefore, hw, hafter⟩ := List.filter_eq_cons_iff.mp hplanners
    have hothers : ∀ x ∈ before ++ after, x.isPlanner = false := by
      intro x hx
      rcases List.mem_append.mp hx with hx | hx
      · exact Bool.eq_false_iff.mpr (hbefore x hx)
      · exact Bool.eq_false_iff.mpr (List.filter_eq_nil_iff.mp hafter x hx)
    by_cases hfour : w.passes = 4
    · refine .inl ⟨?_, .inl hfour⟩
      rw [State.arbitrate_of_choice hidle (hinbound ▸ choose_of_planner hw hfour hothers)]
    · cases hrest : s.inbound.filter fun x => !x.isPlanner with
      | nil =>
        have halone : before ++ after = [] := by
          rw [hinbound] at hrest
          refine List.eq_nil_iff_forall_not_mem.mpr fun x hx => List.filter_eq_nil_iff.mp hrest x ?_ (by simp [hothers x hx])
          rcases List.mem_append.mp hx with hx | hx
          · exact List.mem_append_left _ hx
          · exact List.mem_append_right _ (List.mem_cons_of_mem _ hx)
        obtain ⟨rfl, rfl⟩ := List.append_eq_nil_iff.mp halone
        have hone : s.inbound = [w] := hinbound
        refine .inl ⟨?_, .inr hone⟩
        rw [State.arbitrate_of_choice hidle (rest := []) (by rw [hone]; exact choose_alone)]
      | cons o rest =>
        obtain ⟨first, later, hsplit, hfirst, ho, -⟩ := List.filter_eq_cons_iff.mp hrest
        have hplanner (x : Waiting) (hx : x ∈ s.inbound) (hp : x.isPlanner = true) : x = w := by
          have : x ∈ s.inbound.filter Waiting.isPlanner := List.mem_filter.mpr ⟨hx, hp⟩
          rw [hplanners] at this
          exact List.mem_singleton.mp this
        have hmem (x : Waiting) (hx : x ∈ first ++ later) : x ∈ s.inbound := by
          rw [hsplit]
          rcases List.mem_append.mp hx with hx | hx
          · exact List.mem_append_left _ hx
          · exact List.mem_append_right _ (List.mem_cons_of_mem _ hx)
        have ho' : o.isPlanner = false := by simpa using ho
        have hchoice := choose_of_other (after := later) ho' (fun x hx => by simpa using hfirst x hx)
          fun x hx hp => by rw [hplanner x (hmem x hx) hp]; omega
        refine .inr ⟨o, rfl, by omega, ?_, ?_⟩
        · rw [State.arbitrate_of_choice hidle (hsplit ▸ hchoice)]
        · rw [State.arbitrate_of_choice hidle (hsplit ▸ hchoice)]
          have hkept : (first ++ later).filter Waiting.isPlanner = [w] := by
            rw [← hplanners, hsplit, List.filter_append, List.filter_append, List.filter_cons_of_neg (by simp [ho'])]
          have hpassed : Waiting.isPlanner ∘ Waiting.passed = Waiting.isPlanner := funext fun x => by
            simp [Waiting.isPlanner]
          dsimp only
          rw [List.filter_map, hpassed, hkept, List.map_singleton, Waiting.passed, if_pos hw]

end Arbiter

end Sys2Proof.Machine
end

section
/-! Requests written to and read from frames, and the reception of frames (11 R183 to R185, R189, R191, R192). -/

namespace Sys2Proof.Machine

/-! ### Fields read as they were written (R189) -/

section Fields

theorem bytes16_join (v : BitVec 16) : v.extractLsb' 8 8 ++ v.extractLsb' 0 8 = v := by
  rw [BitVec.extractLsb'_append_extractLsb'_eq_extractLsb' (by rfl)]
  simp

theorem bytes24_join (v : BitVec 24) : v.extractLsb' 16 8 ++ v.extractLsb' 8 8 ++ v.extractLsb' 0 8 = v := by
  rw [BitVec.extractLsb'_append_extractLsb'_eq_extractLsb' (by rfl),
    BitVec.extractLsb'_append_extractLsb'_eq_extractLsb' (by rfl)]
  simp

theorem bytes32_join (v : BitVec 32) :
    v.extractLsb' 24 8 ++ v.extractLsb' 16 8 ++ v.extractLsb' 8 8 ++ v.extractLsb' 0 8 = v := by
  rw [BitVec.extractLsb'_append_extractLsb'_eq_extractLsb' (by rfl),
    BitVec.extractLsb'_append_extractLsb'_eq_extractLsb' (by rfl),
    BitVec.extractLsb'_append_extractLsb'_eq_extractLsb' (by rfl)]
  simp

theorem read_u8 {n : Nat} (h : fitsU8 n = true) : (BitVec.ofNat 8 n).toNat = n := by
  have := of_decide_eq_true h
  rw [BitVec.toNat_ofNat]
  omega

theorem read_u16 {n : Nat} (h : fitsU16 n = true) :
    readU16 ((BitVec.ofNat 16 n).extractLsb' 8 8) ((BitVec.ofNat 16 n).extractLsb' 0 8) = n := by
  have := of_decide_eq_true h
  rw [readU16, bytes16_join, BitVec.toNat_ofNat]
  omega

theorem read_u32 {n : Nat} (h : fitsU32 n = true) :
    readU32 ((BitVec.ofNat 32 n).extractLsb' 24 8) ((BitVec.ofNat 32 n).extractLsb' 16 8)
      ((BitVec.ofNat 32 n).extractLsb' 8 8) ((BitVec.ofNat 32 n).extractLsb' 0 8) = n := by
  have := of_decide_eq_true h
  rw [readU32, bytes32_join, BitVec.toNat_ofNat]
  omega

theorem read_s16 {z : Int} (h : fitsS16 z = true) :
    readS16 ((BitVec.ofInt 16 z).extractLsb' 8 8) ((BitVec.ofInt 16 z).extractLsb' 0 8) = z := by
  have := of_decide_eq_true h
  rw [readS16, bytes16_join, BitVec.toInt_ofInt, Int.bmod_eq_of_le] <;> omega

theorem read_s24 {z : Int} (h : fitsS24 z = true) :
    readS24 ((BitVec.ofInt 24 z).extractLsb' 16 8) ((BitVec.ofInt 24 z).extractLsb' 8 8)
      ((BitVec.ofInt 24 z).extractLsb' 0 8) = z := by
  have := of_decide_eq_true h
  rw [readS24, bytes24_join, BitVec.toInt_ofInt, Int.bmod_eq_of_le] <;> omega

theorem read_s32 {z : Int} (h : fitsS32 z = true) :
    readS32 ((BitVec.ofInt 32 z).extractLsb' 24 8) ((BitVec.ofInt 32 z).extractLsb' 16 8)
      ((BitVec.ofInt 32 z).extractLsb' 8 8) ((BitVec.ofInt 32 z).extractLsb' 0 8) = z := by
  have := of_decide_eq_true h
  rw [readS32, bytes32_join, BitVec.toInt_ofInt, Int.bmod_eq_of_le] <;> omega

theorem read_joint {z : Int} (h : fitsJoint z = true) : ((BitVec.ofNat 8 z.toNat).toNat : Int) = z := by
  have := of_decide_eq_true h
  rw [BitVec.toNat_ofNat]
  omega

theorem read_gauged {z : Int} (h : 0 ≤ z ∧ z < 65536) :
    (readU16 ((BitVec.ofNat 16 z.toNat).extractLsb' 8 8) ((BitVec.ofNat 16 z.toNat).extractLsb' 0 8) : Int) = z := by
  rw [read_u16 (decide_eq_true (by omega))]
  omega

@[simp] theorem u8_length (n : Nat) : (u8 n).length = 1 := rfl
@[simp] theorem bytes16_length (v : BitVec 16) : (bytes16 v).length = 2 := rfl
@[simp] theorem u16_length (n : Nat) : (u16 n).length = 2 := rfl
@[simp] theorem u32_length (n : Nat) : (u32 n).length = 4 := rfl
@[simp] theorem s16_length (z : Int) : (s16 z).length = 2 := rfl
@[simp] theorem s24_length (z : Int) : (s24 z).length = 3 := rfl
@[simp] theorem s32_length (z : Int) : (s32 z).length = 4 := rfl

end Fields

/-! ### Payloads read as they were written (R184, R191, R192) -/

/-- R189: CONFIG PARAM is read by its number. -/
theorem decode_param {tag : Byte} {parameter : Nat} {value : Int} (hn : fitsU8 parameter = true)
    (hv : fitsS32 value = true) :
    decodeRequest .p tag 9 (paramPayload parameter value) = some (paramRequest tag parameter value) := by
  change some (paramRequest tag (BitVec.ofNat 8 parameter).toNat (readS32 _ _ _ _)) = _
  rw [read_u8 hn, read_s32 hv]

theorem decode_payload (i : Instr) (h : Header) (hw : i.wellFormed = true) (hh : i.header = some h) :
    decodeRequest h.port h.tag h.code i.payload = some i := by
  cases i
  all_goals cases hh
  all_goals simp only [Instr.wellFormed, Bool.and_eq_true, decide_eq_true_eq] at hw
  case configParamSawStep | configParamMinimumLap | configParamSetTime | configParamDatumSkew | configParamStrictReferences =>
    exact decode_param (by decide) hw
  case configParamTolerance tag parameter value =>
    obtain ⟨hn, hv⟩ := hw
    have := of_decide_eq_true hn
    refine (decode_param (decide_eq_true (by omega)) hv).trans ?_
    simp [paramRequest, hn, show parameter ≠ 1 ∧ parameter ≠ 2 by omega]
  case configParamEdgeSense tag parameter value =>
    obtain ⟨hn, hv⟩ := hw
    have := of_decide_eq_true hn
    refine (decode_param (decide_eq_true (by omega)) hv).trans ?_
    have hnot : isToleranceNumber parameter = false := decide_eq_false (by omega)
    rw [paramRequest, if_neg (by omega), if_neg (by omega), if_neg (by simp [hnot]), if_neg (by omega), if_neg (by omega),
      if_neg (by omega)]
  case configKind tag kind length height bedDepth cmin lt =>
    obtain ⟨⟨⟨⟨⟨hk, hl⟩, hh⟩, hb⟩, hc⟩, hlt⟩ := hw
    cases lt with
    | none =>
      change some (Instr.configKind tag (BitVec.ofNat 8 kind).toNat (readS24 _ _ _) (readS24 _ _ _) (readS24 _ _ _)
        (readS24 _ _ _) none) = _
      rw [read_u8 hk, read_s24 hl, read_s24 hh, read_s24 hb, read_s24 hc]
    | some lt =>
      change some (Instr.configKind tag (BitVec.ofNat 8 kind).toNat (readS24 _ _ _) (readS24 _ _ _) (readS24 _ _ _)
        (readS24 _ _ _) (some (readS24 _ _ _))) = _
      rw [read_u8 hk, read_s24 hl, read_s24 hh, read_s24 hb, read_s24 hc, read_s24 hlt]
  case configProfile tag profile jn jmin jmax bn tOpen =>
    obtain ⟨⟨⟨⟨⟨hp, hn⟩, hmin⟩, hmax⟩, hb⟩, ht⟩ := hw
    cases tOpen with
    | none =>
      change some (Instr.configProfile tag (BitVec.ofNat 8 profile).toNat (BitVec.ofNat 8 jn.toNat).toNat
        (BitVec.ofNat 8 jmin.toNat).toNat (BitVec.ofNat 8 jmax.toNat).toNat (readS24 _ _ _) none) = _
      rw [read_u8 hp, read_joint hn, read_joint hmin, read_joint hmax, read_s24 hb]
    | some tOpen =>
      change some (Instr.configProfile tag (BitVec.ofNat 8 profile).toNat (BitVec.ofNat 8 jn.toNat).toNat
        (BitVec.ofNat 8 jmin.toNat).toNat (BitVec.ofNat 8 jmax.toNat).toNat (readS24 _ _ _)
        (some (readU32 _ _ _ _))) = _
      rw [read_u8 hp, read_joint hn, read_joint hmin, read_joint hmax, read_s24 hb, read_u32 ht]
  case wallOpen tag wall length =>
    change some (Instr.wallOpen tag (BitVec.ofNat 8 wall).toNat (readS24 _ _ _)) = _
    rw [read_u8 hw.1, read_s24 hw.2]
  case wallClose tag wall =>
    change some (Instr.wallClose tag (BitVec.ofNat 8 wall).toNat) = _
    rw [read_u8 hw]
  case wallRead tag wall start =>
    change some (Instr.wallRead tag (BitVec.ofNat 8 wall).toNat (BitVec.ofNat 8 start).toNat) = _
    rw [read_u8 hw.1, read_u8 hw.2]
  case featureAdd tag wall xa xb zSill zHead =>
    obtain ⟨⟨⟨⟨hwall, ha⟩, hb⟩, hs⟩, hz⟩ := hw
    change some (Instr.featureAdd tag (BitVec.ofNat 8 wall).toNat (readS24 _ _ _) (readS24 _ _ _) (readS24 _ _ _)
      (readS24 _ _ _)) = _
    rw [read_u8 hwall, read_s24 ha, read_s24 hb, read_s24 hs, read_s24 hz]
  case featureDrop tag feature =>
    change some (Instr.featureDrop tag (BitVec.ofNat 8 feature).toNat) = _
    rw [read_u8 hw]
  case lintelSet tag feature topZ bearing =>
    obtain ⟨⟨hf, hz⟩, hb⟩ := hw
    change some (Instr.lintelSet tag (BitVec.ofNat 8 feature).toNat (readS24 _ _ _) (readS24 _ _ _)) = _
    rw [read_u8 hf, read_s24 hz, read_s24 hb]
  case configRead tag table number =>
    change some (Instr.configRead tag (BitVec.ofNat 8 table).toNat (BitVec.ofNat 8 number).toNat) = _
    rw [read_u8 hw.1, read_u8 hw.2]
  case courseBegin tag wall kind profile runCount =>
    obtain ⟨⟨⟨hwall, hk⟩, hp⟩, hr⟩ := hw
    change some (Instr.courseBegin tag (BitVec.ofNat 8 wall).toNat (BitVec.ofNat 8 kind).toNat
      (BitVec.ofNat 8 profile).toNat (BitVec.ofNat 8 runCount).toNat) = _
    rw [read_u8 hwall, read_u8 hk, read_u8 hp, read_u8 hr]
  case runEntry tag start stop =>
    change some (Instr.runEntry tag (readS24 _ _ _) (readS24 _ _ _)) = _
    rw [read_s24 hw.1, read_s24 hw.2]
  case courseRetire tag wall number =>
    change some (Instr.courseRetire tag (BitVec.ofNat 8 wall).toNat (BitVec.ofNat 8 number).toNat) = _
    rw [read_u8 hw.1, read_u8 hw.2]
  case courseRead tag wall number order =>
    obtain ⟨⟨hwall, hn⟩, ho⟩ := hw
    cases order with
    | none =>
      change some (Instr.courseRead tag (BitVec.ofNat 8 wall).toNat (BitVec.ofNat 8 number).toNat none) = _
      rw [read_u8 hwall, read_u8 hn]
    | some order =>
      change some (Instr.courseRead tag (BitVec.ofNat 8 wall).toNat (BitVec.ofNat 8 number).toNat
        (some (BitVec.ofNat 8 order).toNat)) = _
      rw [read_u8 hwall, read_u8 hn, read_u8 ho]
  case runSlack tag wall number order =>
    obtain ⟨⟨hwall, hn⟩, ho⟩ := hw
    change some (Instr.runSlack tag (BitVec.ofNat 8 wall).toNat (BitVec.ofNat 8 number).toNat
      (BitVec.ofNat 8 order).toNat) = _
    rw [read_u8 hwall, read_u8 hn, read_u8 ho]
  case slotRead tag slot => exact congrArg (some ∘ Instr.slotRead tag) (read_u16 hw)
  case accept tag slot => exact congrArg (some ∘ Instr.accept tag) (read_u16 hw)
  case relay tag slot => exact congrArg (some ∘ Instr.relay tag) (read_u16 hw)
  case placed tag slot => exact congrArg (some ∘ Instr.placed tag) (read_u16 hw)
  case decline tag slot => exact congrArg (some ∘ Instr.decline tag) (read_u16 hw)
  case absent tag slot => exact congrArg (some ∘ Instr.absent tag) (read_u16 hw)
  case delivered tag generation slot => exact congrArg (some ∘ Instr.delivered tag generation) (read_u16 hw)
  case clearFault tag flag => exact congrArg (some ∘ Instr.clearFault tag) (read_u8 hw)
  case captureRead tag capture => exact congrArg (some ∘ Instr.captureRead tag) (read_u8 hw)
  case captureClear tag capture => exact congrArg (some ∘ Instr.captureClear tag) (read_u8 hw)
  case acknowledge tag reasons => exact congrArg (some ∘ Instr.acknowledge tag) (bytes16_join reasons)
  case enable tag enables => exact congrArg (some ∘ Instr.enable tag) (bytes16_join enables)
  case stationSet tag wall xLo xHi zHi =>
    obtain ⟨⟨⟨hwall, hl⟩, hh⟩, hz⟩ := hw
    change some (Instr.stationSet tag (BitVec.ofNat 8 wall).toNat (readS24 _ _ _) (readS24 _ _ _) (readS24 _ _ _)) = _
    rw [read_u8 hwall, read_s24 hl, read_s24 hh, read_s24 hz]
  case measure tag slot xRight yOff zTop =>
    obtain ⟨⟨⟨hs, hx⟩, hy⟩, hz⟩ := hw
    change some (Instr.measure tag (readU16 _ _) (readS24 _ _ _) (readS24 _ _ _) (readS24 _ _ _)) = _
    rw [read_u16 hs, read_s24 hx, read_s24 hy, read_s24 hz]
  case datum tag ox oy oz skew =>
    obtain ⟨⟨⟨hx, hy⟩, hz⟩, hk⟩ := hw
    change some (Instr.datum tag (readS24 _ _ _) (readS24 _ _ _) (readS24 _ _ _) (readS16 _ _)) = _
    rw [read_s24 hx, read_s24 hy, read_s24 hz, read_s16 hk]
  case pick tag kind gauged =>
    change some (Instr.pick tag (BitVec.ofNat 8 kind).toNat (readU16 _ _)) = _
    rw [read_u8 hw.1, read_gauged hw.2]
  all_goals rfl

/-- R183: no payload is longer than a frame may carry. -/
theorem payload_length_le (i : Instr) : i.payload.length ≤ 64 := by
  cases i
  case configKind tag kind length height bedDepth cmin lt => cases lt <;> simp [Instr.payload]
  case configProfile tag profile jn jmin jmax bn tOpen => cases tOpen <;> simp [Instr.payload]
  case courseRead tag wall number order => cases order <;> simp [Instr.payload]
  all_goals simp [Instr.payload, paramPayload]

/-- Settles O6, by the reading of each kind of field as it was written. -/
theorem wellFormedRequestsAreDecoded : Obligations.WellFormedRequestsAreDecoded :=
  fun i h hw hh => ⟨payload_length_le i, decode_payload i h hw hh⟩

end Sys2Proof.Machine
end

section
/-! Frames received byte by byte: what a whole frame hands on, and what is dropped (11 R184). -/

namespace Sys2Proof.Machine

/-! ### The receiver of a port through the bytes of one frame -/

section Reception

variable {s : State} {port : Port}

theorem State.setReceiver_self (hr : (s.ports.get port).receiver = .hunt) : s.setReceiver port .hunt = s := by
  rw [State.setReceiver, ← hr]
  cases port <;> rfl

/-- A byte that completes no frame moves the receiver of its port only. -/
theorem State.receiveByte_setReceiver {r r' : Receiver} {b : Byte} (hb : r.byte b = ⟨r', none⟩) :
    (s.setReceiver port r).receiveByte port b = s.setReceiver port r' := by
  have hget : ((s.setReceiver port r).ports.get port).receiver = r := by cases port <;> rfl
  rw [State.receiveByte, hget, hb]
  cases port <;> rfl

/-- The byte that completes a frame leaves the receiver in HUNT and hands the frame on. -/
theorem State.receiveByte_setReceiver_last {r : Receiver} {b : Byte} {frame : List Byte}
    (hb : r.byte b = ⟨.hunt, some frame⟩) :
    (s.setReceiver port r).receiveByte port b = (s.setReceiver port .hunt).handOn port frame := by
  have hget : ((s.setReceiver port r).ports.get port).receiver = r := by cases port <;> rfl
  rw [State.receiveByte, hget, hb]
  cases port <;> rfl

theorem receive_cons (b : Byte) (bytes : List Byte) (s : State) :
    receive port (b :: bytes) s = receive port bytes (s.receiveByte port b) := rfl

theorem lengthByte_append {taken : List Byte} (h : 3 ≤ taken.length) (rest : List Byte) :
    lengthByte (taken ++ rest) = lengthByte taken := by
  rw [lengthByte, List.getElem?_append_left (by omega), lengthByte]

/-- R184: TAG, CODE and LEN of a frame, from HUNT. -/
theorem receive_head (hr : (s.ports.get port).receiver = .hunt) (tag code len : Byte) (rest : List Byte) :
    receive port (sync :: tag :: code :: len :: rest) s =
      receive port rest (s.setReceiver port (Receiver.byte (.header [tag, code]) len).receiver) := by
  rw [← State.setReceiver_self (s := s) hr, receive_cons, State.receiveByte_setReceiver (r' := .header []) (by decide),
    receive_cons, State.receiveByte_setReceiver (r' := .header [tag]) (by rfl), receive_cons,
    State.receiveByte_setReceiver (r' := .header [tag, code]) (by rfl), receive_cons,
    State.receiveByte_setReceiver (r' := (Receiver.byte (.header [tag, code]) len).receiver)]
  · rw [State.setReceiver_self hr]
  · simp only [Receiver.byte]
    split_ifs <;> rfl

/-- R184: the bytes of a payload, all of them. -/
theorem receive_payload (rest taken : List Byte) (h3 : 3 ≤ taken.length) (hrest : rest ≠ [])
    (hlen : taken.length + rest.length = 3 + lengthByte taken) :
    receive port rest (s.setReceiver port (.payload taken)) = s.setReceiver port (.check (taken ++ rest)) := by
  induction rest generalizing taken with
  | nil => exact absurd rfl hrest
  | cons b rest ih =>
    have hkeep : lengthByte (taken ++ [b]) = lengthByte taken := lengthByte_append h3 _
    have hnow : (taken ++ [b]).length = taken.length + 1 := by simp
    rw [List.length_cons] at hlen
    rw [receive_cons]
    by_cases hnil : rest = []
    · subst hnil
      rw [State.receiveByte_setReceiver (r' := .check (taken ++ [b]))]
      · rfl
      · rw [List.length_nil] at hlen
        simp only [Receiver.byte]
        rw [if_neg (by omega)]
    · have hpos := List.length_pos_iff.mpr hnil
      rw [State.receiveByte_setReceiver (r' := .payload (taken ++ [b])), ih _ (by omega) hnil (by omega)]
      · simp
      · simp only [Receiver.byte]
        rw [if_pos (by omega)]

/-- R184: TAG, CODE, LEN and the whole payload, from HUNT: the CRC is awaited. -/
theorem receive_body (hr : (s.ports.get port).receiver = .hunt) (tag code len : Byte) (payload rest : List Byte)
    (hlen : payload.length = len.toNat) (h64 : payload.length ≤ 64) :
    receive port (sync :: tag :: code :: len :: payload ++ rest) s =
      receive port rest (s.setReceiver port (.check (tag :: code :: len :: payload))) := by
  have hbyte : lengthByte [tag, code, len] = len.toNat := rfl
  rw [List.cons_append, List.cons_append, List.cons_append, List.cons_append, receive_head hr]
  cases payload with
  | nil =>
    rw [List.length_nil] at hlen
    simp [Receiver.byte, hbyte, ← hlen]
  | cons b payload =>
    rw [List.length_cons] at hlen h64
    have hhead : (Receiver.byte (.header [tag, code]) len).receiver = .payload [tag, code, len] := by
      simp only [Receiver.byte, List.cons_append, List.nil_append, hbyte]
      rw [if_neg (by simp), if_neg (by omega), if_neg (by omega)]
    rw [hhead, receive, List.foldl_append, ← receive, ← receive, receive_payload]
    · rfl
    · simp
    · simp
    · simp [hbyte, ← hlen, Nat.add_comm]

/-- R184: the bytes of a whole frame, from HUNT, are judged as one. -/
theorem receive_frame (hr : (s.ports.get port).receiver = .hunt) (tag code len : Byte) (payload : List Byte) (c : BitVec 16)
    (hlen : payload.length = len.toNat) (h64 : payload.length ≤ 64) :
    receive port (sync :: tag :: code :: len :: payload ++ bytes16 c) s =
      s.handOn port (tag :: code :: len :: payload ++ bytes16 c) := by
  have hbyte : ∀ rest, lengthByte (tag :: code :: len :: rest) = len.toNat := fun _ => rfl
  rw [receive_body hr _ _ _ _ _ hlen h64]
  rw [bytes16, receive_cons, State.receiveByte_setReceiver (r' := .check (tag :: code :: len :: payload ++ [c.extractLsb' 8 8])),
    receive_cons, State.receiveByte_setReceiver_last
      (frame := tag :: code :: len :: payload ++ [c.extractLsb' 8 8, c.extractLsb' 0 8]), State.setReceiver_self hr]
  · rfl
  · simp [Receiver.byte, hbyte, hlen]
    omega
  · simp [Receiver.byte, hbyte, hlen]
    omega

end Reception

/-! ### The checks of a whole frame -/

theorem bytes16_injective {v w : BitVec 16} (h : bytes16 v = bytes16 w) : v = w := by
  injection h with hhigh hlow
  injection hlow with hlow _
  rw [← bytes16_join v, ← bytes16_join w, hhigh, hlow]

/-- R184: the three checks, on a frame taken apart. -/
theorem checkFrame_eq (port : Port) (tag code len : Byte) (payload : List Byte) (c : BitVec 16) :
    checkFrame port (tag :: code :: len :: payload ++ bytes16 c) =
      if c = crc (tag :: code :: len :: payload) then decodeRequest port tag code.toNat payload else none := by
  have hbody : (tag :: code :: len :: payload ++ bytes16 c).length - 2 = (tag :: code :: len :: payload).length := by
    simp
  rw [checkFrame, hbody, List.take_left, List.drop_left]
  by_cases hc : c = crc (tag :: code :: len :: payload)
  · rw [if_pos hc, hc]
    simp
  · rw [if_neg hc]
    simp only []
    rw [if_pos (fun h => hc (bytes16_injective h).symm)]

/-- R184 checks 2 and 3 for the codes of the Record Engine: what is read has the length of its fields, one code after the
other, and for each the payloads by their length. -/
theorem recordRequest_isSome (tag : Byte) {code : Nat} (hcode : code ≤ 21) (payload : List Byte) :
    (recordRequest tag code payload).isSome = decide (payload.length ∈ fieldLengths .p code) := by
  interval_cases code
  all_goals
    rcases payload with _ | ⟨_, _ | ⟨_, _ | ⟨_, _ | ⟨_, _ | ⟨_, _ | ⟨_, _ | ⟨_, _ | ⟨_, _ | ⟨_, _ | ⟨_, _ | ⟨_, _ |
      ⟨_, _ | ⟨_, _ | ⟨_, _ | ⟨_, _ | ⟨_, _ | ⟨_, _⟩⟩⟩⟩⟩⟩⟩⟩⟩⟩⟩⟩⟩⟩⟩⟩⟩
    all_goals rfl

/-- The same for the codes of the Station Unit and the Fault Unit, and the codes above them, which are none. -/
theorem unitRequest_isSome (tag : Byte) {code : Nat} (h21 : ¬ code ≤ 21) (payload : List Byte) :
    (unitRequest tag code payload).isSome = decide (payload.length ∈ fieldLengths .p code) := by
  by_cases h30 : code ≤ 30
  · interval_cases code
    all_goals
      rcases payload with _ | ⟨_, _ | ⟨_, _ | ⟨_, _ | ⟨_, _ | ⟨_, _ | ⟨_, _ | ⟨_, _ | ⟨_, _ | ⟨_, _ | ⟨_, _ |
        ⟨_, _⟩⟩⟩⟩⟩⟩⟩⟩⟩⟩⟩
      all_goals rfl
  · obtain ⟨k, rfl⟩ := Nat.exists_eq_add_of_lt (Nat.not_le.mp h30)
    rw [show 30 + k + 1 = k + 31 by omega]
    rfl

theorem fieldLengths_of_armRequest {tag : Byte} {code : Nat} {payload : List Byte} {i : Instr}
    (h : armRequest tag code payload = some i) : payload.length ∈ fieldLengths .a code := by
  unfold armRequest at h
  split at h
  case h_4 => cases h
  all_goals exact List.mem_singleton.mpr rfl

theorem fieldLengths_of_trackerRequest {tag : Byte} {code : Nat} {payload : List Byte} {i : Instr}
    (h : trackerRequest tag code payload = some i) : payload.length ∈ fieldLengths .t code := by
  unfold trackerRequest at h
  split at h
  case h_4 => cases h
  all_goals exact List.mem_singleton.mpr rfl

theorem fieldLengths_of_feederRequest {tag : Byte} {code : Nat} {payload : List Byte} {i : Instr}
    (h : feederRequest tag code payload = some i) : payload.length ∈ fieldLengths .f code := by
  unfold feederRequest at h
  split at h
  case h_3 => cases h
  all_goals exact List.mem_singleton.mpr rfl

/-- R184 check 3: what is read as a request has a code of its port and the length of its fields. -/
theorem fieldLengths_of_decode {port : Port} {tag : Byte} {code : Nat} {payload : List Byte} {i : Instr}
    (h : decodeRequest port tag code payload = some i) : payload.length ∈ fieldLengths port code := by
  cases port with
  | p =>
    rw [decodeRequest] at h
    split_ifs at h with hcode
    · have hsome := recordRequest_isSome tag hcode payload
      rw [h] at hsome
      exact of_decide_eq_true hsome.symm
    · have hsome := unitRequest_isSome tag hcode payload
      rw [h] at hsome
      exact of_decide_eq_true hsome.symm
  | a => exact fieldLengths_of_armRequest h
  | t => exact fieldLengths_of_trackerRequest h
  | f => exact fieldLengths_of_feederRequest h

/-! ### What a whole frame does -/

theorem exec_frameReceived {s : State} (hs : s.hold = .running) (port : Port) (bytes : List Byte) :
    exec (.frameReceived port bytes) s = .next (receive port bytes s) :=
  event_of_running _ s (State.held_of_running hs)

theorem header_code_lt {i : Instr} {h : Header} (hh : i.header = some h) : h.code < 256 := by
  cases i
  all_goals cases hh
  all_goals exact of_decide_eq_true rfl

/-- A frame that carries no request leaves no trace. -/
theorem exec_dropped {s : State} {port : Port} (hs : s.hold = .running) (hr : (s.ports.get port).receiver = .hunt)
    {tag code len : Byte} {payload : List Byte} {c : BitVec 16} (hlen : payload.length = len.toNat)
    (h64 : payload.length ≤ 64) (hdrop : checkFrame port (tag :: code :: len :: payload ++ bytes16 c) = none) :
    exec (.frameReceived port (sync :: tag :: code :: len :: payload ++ bytes16 c)) s = .next s := by
  rw [exec_frameReceived hs, receive_frame hr _ _ _ _ _ hlen h64, State.handOn, hdrop]

theorem length_of_short {payload : List Byte} (h64 : payload.length ≤ 64) :
    payload.length = (BitVec.ofNat 8 payload.length).toNat :=
  (read_u8 (decide_eq_true (by omega))).symm

/-- Settles O7: the frame is received whole and read as it was written. -/
theorem frameOfARequestArrives : Obligations.FrameOfARequestArrives := by
  intro i h frame s hw hh hf hs hr
  obtain ⟨h64, hdecode⟩ := wellFormedRequestsAreDecoded i h hw hh
  have hcode : (BitVec.ofNat 8 h.code).toNat = h.code := read_u8 (decide_eq_true (header_code_lt hh))
  have hframe : frame = frameBytes h.tag h.code i.payload := by
    rw [Instr.frame, hh] at hf
    exact (Option.some.inj hf).symm
  rw [exec_frameReceived hs, hframe, frameBytes]
  refine congrArg Host.Outcome.next ((receive_frame hr _ _ _ _ _ (length_of_short h64) h64).trans ?_)
  rw [State.handOn, checkFrame_eq, if_pos rfl, hcode, hdecode]
  simp only [hh]

/-- Settles O8: the check that fails leaves the receiver in HUNT and nothing handed on. -/
theorem badFramesAreDropped : Obligations.BadFramesAreDropped := by
  intro port s hs
  refine ⟨?_, ?_, ?_, ?_⟩
  · intro tag code payload c hr h64 hc
    exact exec_dropped hs hr (length_of_short h64) h64 (by rw [checkFrame_eq, if_neg hc])
  · intro tag code len hr hlong
    rw [exec_frameReceived hs, receive_head hr]
    have hdrop : (Receiver.byte (.header [tag, code]) len).receiver = .hunt := by
      have hlong' : 64 < lengthByte ([tag, code] ++ [len]) := hlong
      simp only [Receiver.byte]
      rw [if_neg (by simp), if_pos hlong']
    rw [hdrop, State.setReceiver_self hr]
    rfl
  · intro tag code payload hr h64 hlen
    have hdecode : decodeRequest port tag code.toNat payload = none :=
      Option.eq_none_iff_forall_not_mem.mpr fun i hi => hlen (fieldLengths_of_decode hi)
    rw [frameBytes, BitVec.ofNat_toNat, BitVec.setWidth_eq]
    exact exec_dropped hs hr (length_of_short h64) h64 (by rw [checkFrame_eq, if_pos rfl, hdecode])
  · rintro i (rfl | rfl)
    all_goals exact event_of_running _ s (State.held_of_running hs)

end Sys2Proof.Machine
end

section
/-! The host's requests to the Fault Unit, and the slot ids that name no record (03 R62, 09 R167 to R174). -/

namespace Sys2Proof.Machine

/-! ### Sets of reasons (R168, R189) -/

theorem beyondReasons_iff (set : BitVec 16) : beyondReasons set = true ↔ 2048 ≤ set.toNat := by
  rw [beyondReasons, decide_eq_true_eq, ne_eq, ← BitVec.toNat_inj, BitVec.extractLsb'_toNat, Nat.shiftRight_eq_div_pow]
  have := set.isLt
  simp
  omega

theorem beyondReasons_eq_false {set : BitVec 16} (h : set.toNat < 2048) : beyondReasons set = false :=
  Bool.eq_false_iff.mpr fun hb => absurd ((beyondReasons_iff set).mp hb) (by omega)

theorem reasonsField_eq (reasons : BitVec 11) :
    reasonsField reasons = [BitVec.ofNat 8 (reasons.toNat / 256), BitVec.ofNat 8 reasons.toNat] := by
  have := reasons.isLt
  rw [reasonsField, bytes16_eq, BitVec.toNat_setWidth, Nat.mod_eq_of_lt (by omega)]

theorem bit_getLsbD (r : Reason) : ∀ place < 11, r.bit.getLsbD place = decide (place = r.place) := by
  cases r
  all_goals decide

/-- Settles O12, by the body of each request. -/
theorem enableAndAcknowledge : Obligations.EnableAndAcknowledge := by
  refine ⟨fun tag set s => ⟨fun hs hset => ?_, fun hs hset => ?_, ?_⟩, by decide, by decide, bit_getLsbD, reasonsField_eq⟩
  · have he : enable set s = (Reply.okWith (reasonsField (set.setWidth 11)),
        { s with enables := set.setWidth 11 }.deriveOutputs) := by
      rw [enable, if_neg (by simp [beyondReasons_eq_false hset])]
      rfl
    obtain ⟨t, hnext, hans, ht⟩ := exec_of_body (by rfl) rfl hs (enable_ignores set) nofun he
    have henables : t.enables = set.setWidth 11 := by rw [ht]; rfl
    refine ⟨t, hnext, henables ▸ hans, henables, ?_⟩
    rw [ht]
    rfl
  · have he : acknowledge set s = (Reply.okWith (reasonsField (s.reasons &&& ~~~(set.setWidth 11))),
        { s with reasons := s.reasons &&& ~~~(set.setWidth 11) }.deriveOutputs) := by
      rw [acknowledge, if_neg (by simp [beyondReasons_eq_false hset])]
      rfl
    obtain ⟨t, hnext, hans, ht⟩ := exec_of_body (by rfl) rfl hs (acknowledge_ignores set) nofun he
    have hreasons : t.reasons = s.reasons &&& ~~~(set.setWidth 11) := by rw [ht]; rfl
    refine ⟨t, hnext, hreasons ▸ hans, fun place hplace => ?_, ?_⟩
    · simp [hreasons, hplace]
    · rw [ht]
      rfl
  · rintro i code (⟨rfl, rfl⟩ | ⟨rfl, rfl⟩) hs hset
    · exact answersUnchanged_of_body (by rfl) rfl hs (enable_ignores set) nofun
        (if_pos ((beyondReasons_iff set).mpr hset))
    · exact answersUnchanged_of_body (by rfl) rfl hs (acknowledge_ignores set) nofun
        (if_pos ((beyondReasons_iff set).mpr hset))

/-! ### Flags and captures (R163, R165) -/

theorem flagsByte_getLsbD (a b c d e f : Bool) : ∃ byte : Byte, flagsByte [a, b, c, d, e, f] = [byte] ∧
    ∀ i < 8, byte.getLsbD i = (([a, b, c, d, e, f] : List Bool)[i]?).getD false := by
  refine ⟨_, rfl, ?_⟩
  revert a b c d e f
  decide

theorem flagNumbered_eq_none {n : Nat} (h : n < 1 ∨ 6 < n) : flagNumbered n = none := by
  rw [flagNumbered, if_neg (by omega), if_neg (by omega), if_neg (by omega), if_neg (by omega), if_neg (by omega),
    if_neg (by omega)]

theorem flagNumbered_of_mem {n : Nat} {flag : FaultFlag}
    (h : (n, flag) ∈ [(1, FaultFlag.sequence), (2, .parkLost), (3, .loadTimeout), (4, .overrun), (5, .reference),
      (6, .reject)]) : flagNumbered n = some flag := by
  simp only [List.mem_cons, Prod.mk.injEq, List.not_mem_nil, or_false] at h
  rcases h with ⟨rfl, rfl⟩ | ⟨rfl, rfl⟩ | ⟨rfl, rfl⟩ | ⟨rfl, rfl⟩ | ⟨rfl, rfl⟩ | ⟨rfl, rfl⟩
  all_goals rfl

theorem clearRefusal_eq_none {flag : FaultFlag} {s : State} (hq : flag = .sequence → s.queue = [])
    (hp : flag = .parkLost → s.station.state = .parked) : clearRefusal flag s = none := by
  cases flag with
  | sequence => exact if_pos (hq rfl)
  | parkLost => exact if_pos (hp rfl)
  | loadTimeout | overrun | reference | reject => rfl

theorem faultClass_value_of_mem (c : Captured) (cls : Nat) (h : (c.cls, cls) ∈ [(FaultClass.sequence, 1), (.parkLost, 2),
    (.loadTimeout, 3), (.overrun, 4), (.reference, 5), (.geometry, 6)]) : cls = c.cls.value := by
  simp only [List.mem_cons, Prod.mk.injEq, List.not_mem_nil, or_false] at h
  rcases h with ⟨h, rfl⟩ | ⟨h, rfl⟩ | ⟨h, rfl⟩ | ⟨h, rfl⟩ | ⟨h, rfl⟩ | ⟨h, rfl⟩
  all_goals
    rw [h]
    rfl

/-- Settles O13, by the body of each request. -/
theorem clearFaultAndCaptureClear : Obligations.ClearFaultAndCaptureClear := by
  refine ⟨?_, ?_, ?_, ?_, ?_, ?_, fun f => flagsByte_getLsbD .., rfl, ?_⟩
  · intro tag n flag s hs hn hq hp
    have he : clearFault n s = (Reply.okWith (s.flags.put flag false).field, s.putFlag flag false) := by
      rw [clearFault, flagNumbered_of_mem hn]
      simp only [clearRefusal_eq_none hq hp]
      rfl
    obtain ⟨t, hnext, hans, ht⟩ := exec_of_body (by rfl) rfl hs (clearFault_ignores n) nofun he
    have hflags : t.flags = s.flags.put flag false := by rw [ht]; rfl
    refine ⟨t, hnext, hflags ▸ hans, hflags, ?_⟩
    rw [ht]
    rfl
  · intro tag s hs hq
    have hrefuse : clearRefusal .sequence s = some (Reply.refusedWith .queueNotEmpty (u8 s.queue.length)) := if_neg hq
    exact answersUnchanged_of_body (by rfl) rfl hs (clearFault_ignores 1) nofun (by
      rw [clearFault, show flagNumbered 1 = some .sequence from rfl]
      simp only [hrefuse])
  · intro tag s hs hp
    have hrefuse : clearRefusal .parkLost s = some (Reply.refusedWith .badState s.stationField) := if_neg hp
    exact answersUnchanged_of_body (by rfl) rfl hs (clearFault_ignores 2) nofun (by
      rw [clearFault, show flagNumbered 2 = some .parkLost from rfl]
      simp only [hrefuse]
      rfl)
  · intro tag s hs
    obtain ⟨t, hnext, hans, ht⟩ := exec_of_body (by rfl) rfl hs (captureClear_ignores 1) nofun (if_pos rfl)
    exact ⟨t, hnext, hans, ht⟩
  · intro tag s hs
    obtain ⟨t, hnext, hans, ht⟩ := exec_of_body (i := .captureClear tag 2) (by rfl) rfl hs (captureClear_ignores 2) nofun
      ((if_neg (by decide)).trans (if_pos rfl))
    exact ⟨t, hnext, hans, ht⟩
  · intro tag n s
    refine ⟨fun hs hn => ?_, fun hs hn => ?_, fun hs hn => ?_⟩
    · exact answersUnchanged_of_body (by rfl) rfl hs (clearFault_ignores n) nofun (by
        rw [clearFault, flagNumbered_eq_none hn])
    · exact answersUnchanged_of_body (by rfl) rfl hs (captureRead_ignores n) nofun
        ((if_neg (by omega)).trans (if_neg (by omega)))
    · exact answersUnchanged_of_body (by rfl) rfl hs (captureClear_ignores n) nofun
        ((if_neg (by omega)).trans (if_neg (by omega)))
  · intro c cls hcls
    rw [faultClass_value_of_mem c cls hcls]
    rfl

/-! ### Slot ids that name no record (R62, R174) -/

section NoSlot

variable {port : Port} {id : Nat} {body : Slot → State → Reply × State} {s : State}

theorem withSlot_of_outOfRange (hid : 512 ≤ id) : withSlot port id body s = (Reply.refuse .outOfRange, s) := if_pos hid

theorem withSlot_of_free (hid : id < 512) (hnone : s.slot id = none) :
    withSlot port id body s = s.refuseNoRecord port (some id) 4 id (u16 id) := by
  rw [withSlot, if_neg (show ¬ slotCapacity ≤ id from Nat.not_le.mpr hid), hnone]

end NoSlot

/-- The body of a request that names a slot makes the two checks of R62 first. -/
structure NamesSlot (i : Instr) (h : Header) (id : Nat) (body : State → Reply × State) : Prop where
  exec_eq : ∀ s, exec i s = serve i body s
  ignores : IgnoresPortUnit body
  port : h.port ≠ .f
  outOfRange : ∀ s, 512 ≤ id → body s = (Reply.refuse .outOfRange, s)
  free : ∀ s, id < 512 → s.slot id = none → body s = s.refuseNoRecord h.port (some id) 4 id (u16 id)

theorem exists_namesSlot {i : Instr} {h : Header} {id : Nat} (hh : i.header = some h)
    (hi : i = .slotRead h.tag id ∨ i = .accept h.tag id ∨ i = .relay h.tag id ∨ i = .placed h.tag id ∨
      i = .decline h.tag id ∨ i = .absent h.tag id ∨ ∃ x y z, i = .measure h.tag id x y z) :
    ∃ body, NamesSlot i h id body := by
  obtain ⟨port, tag, code⟩ := h
  rcases hi with rfl | rfl | rfl | rfl | rfl | rfl | ⟨x, y, z, rfl⟩
  all_goals cases hh
  · exact ⟨slotRead id, fun _ => rfl, slotRead_ignores id, nofun, fun _ => withSlot_of_outOfRange, fun _ => withSlot_of_free⟩
  · exact ⟨accept id, fun _ => rfl, accept_ignores id, nofun, fun _ => withSlot_of_outOfRange, fun _ => withSlot_of_free⟩
  · exact ⟨relay id, fun _ => rfl, relay_ignores id, nofun, fun _ => withSlot_of_outOfRange, fun _ => withSlot_of_free⟩
  · exact ⟨placed id, fun _ => rfl, placed_ignores id, nofun, fun _ => withSlot_of_outOfRange, fun _ => withSlot_of_free⟩
  · exact ⟨decline id, fun _ => rfl, decline_ignores id, nofun, fun _ => withSlot_of_outOfRange, fun _ => withSlot_of_free⟩
  · exact ⟨absent id, fun _ => rfl, absent_ignores id, nofun, fun _ => withSlot_of_outOfRange, fun _ => withSlot_of_free⟩
  · exact ⟨measure id ⟨x, y, z⟩, fun _ => rfl, measure_ignores id _, nofun, fun _ => withSlot_of_outOfRange,
      fun _ => withSlot_of_free⟩

/-- Settles O14, by the two refusals of a request that names a slot. -/
theorem freeSlotIsAReferenceEvent : Obligations.FreeSlotIsAReferenceEvent := by
  intro i h id s hh hi hs
  obtain ⟨body, hbody⟩ := exists_namesSlot hh hi
  refine ⟨fun hid => answersUnchanged_of_body (hbody.exec_eq s) hh hs hbody.ignores hbody.port (hbody.outOfRange s hid),
    fun hid hnone => ?_⟩
  obtain ⟨t, hnext, hans, ht⟩ :=
    exec_of_body (hbody.exec_eq s) hh hs hbody.ignores hbody.port (hbody.free s hid hnone)
  refine ⟨t, hnext, hans, fun hoff => ?_, fun hon => ?_⟩
  · rwa [State.referenceEvent_off _ _ _ _ _ hoff] at ht
  · rw [State.referenceEvent_on _ _ _ _ _ hon] at ht
    exact ⟨congrArg State.flags ht, congrArg State.processCapture ht, by rw [ht]; rfl⟩

/-! ### WALL OPEN (R1, R3) -/

/-- Settles O16, by the body of WALL OPEN. -/
theorem wallOpenStartsTheWall : Obligations.WallOpenStartsTheWall := by
  refine ⟨fun tag w length s hs hrange =>
    answersUnchanged_of_body (by rfl) rfl hs (wallOpen_ignores w length) nofun (if_pos hrange),
    fun tag w length s hs hw hlo hhi => ?_⟩
  have hrange : ¬ (3 < w ∨ length < 1000 ∨ 200000 < length) := by omega
  refine ⟨fun hclosed => ?_, fun hopen => ?_⟩
  · have he : wallOpen w length s = (Reply.okay,
        { s with
          walls := Table.put s.walls w
            { length := length, chainHead := 0, nextCourse := 0, baseCourse := 0, settledTop := 0 } }) := by
      rw [wallOpen, if_neg hrange, hclosed]
    obtain ⟨t, hnext, hans, ht⟩ := exec_of_body (by rfl) rfl hs (wallOpen_ignores w length) nofun he
    have hwall := State.wall_of_withPortUnitOf ht
    refine ⟨t, hnext, hans, (hwall w).trans (Table.find_put_same ..), fun v hv =>
      (hwall v).trans (Table.find_put_other _ _ hv), ?_⟩
    rw [ht]
    rfl
  · obtain ⟨r, hr⟩ := Option.ne_none_iff_exists'.mp hopen
    exact answersUnchanged_of_body (by rfl) rfl hs (wallOpen_ignores w length) nofun (by
      rw [wallOpen, if_neg hrange, hr])

end Sys2Proof.Machine
end

section
/-! Chains of openings, FEATURE DROP and LINTEL SET (01 R2, R7, R11, R12). -/

namespace Sys2Proof.Machine

/-! ### The chain of a wall follows the next fields (R2, R7) -/

section Chain

variable {s : State}

theorem State.chainFrom_cons {fuel k : Nat} {f : Feature} (hf : s.feature k = some f) :
    s.chainFrom (fuel + 1) k = (k, f) :: s.chainFrom fuel f.next := by simp only [State.chainFrom, hf]

theorem State.chainFrom_free {fuel k : Nat} (hf : s.feature k = none) : s.chainFrom fuel k = [] := by
  cases fuel with
  | zero => rfl
  | succ n => simp only [State.chainFrom, hf]

theorem State.head?_chainFrom (fuel k : Nat) :
    (s.chainFrom (fuel + 1) k).head? = (s.feature k).map fun f => (k, f) := by
  cases hf : s.feature k with
  | none => rw [State.chainFrom_free hf]; rfl
  | some f => rw [State.chainFrom_cons hf]; rfl

/-- Each feature of a chain leads to the one that stands next in it. -/
theorem State.chainFrom_link {fuel k : Nat} {before after : List (Nat × Feature)} {a b : Nat × Feature}
    (h : s.chainFrom fuel k = before ++ a :: b :: after) : a.2.next = b.1 ∧ s.feature b.1 = some b.2 := by
  induction fuel generalizing k before with
  | zero => cases before <;> cases h
  | succ n ih =>
    cases hf : s.feature k with
    | none =>
      rw [State.chainFrom_free hf] at h
      cases before <;> cases h
    | some f =>
      rw [State.chainFrom_cons hf] at h
      cases before with
      | cons e before => exact ih (List.cons.inj h).2
      | nil =>
        obtain ⟨rfl, hrest⟩ := List.cons.inj h
        cases n with
        | zero => cases hrest
        | succ n =>
          have hhead := State.head?_chainFrom (s := s) n f.next
          rw [hrest] at hhead
          obtain ⟨g, hg, hb⟩ := Option.map_eq_some_iff.mp hhead.symm
          subst hb
          exact ⟨rfl, hg⟩

/-- A chain ends at a next field that names no feature, or where the walk ends. -/
theorem State.chainFrom_last {fuel k : Nat} {a : Nat × Feature} (h : (s.chainFrom fuel k).getLast? = some a) :
    s.feature a.2.next = none ∨ (s.chainFrom fuel k).length = fuel := by
  induction fuel generalizing k with
  | zero => cases h
  | succ n ih =>
    cases hf : s.feature k with
    | none =>
      rw [State.chainFrom_free hf] at h
      cases h
    | some f =>
      rw [State.chainFrom_cons hf, List.getLast?_cons] at h
      rw [State.chainFrom_cons hf, List.length_cons]
      cases hlast : (s.chainFrom n f.next).getLast? with
      | some e =>
        rw [hlast] at h
        obtain rfl := Option.some.inj h
        exact (ih hlast).imp_right fun hlen => congrArg (· + 1) hlen
      | none =>
        rw [hlast] at h
        obtain rfl := Option.some.inj h
        have hnil := List.getLast?_eq_none_iff.mp hlast
        cases n with
        | zero => exact .inr (by rw [hnil]; rfl)
        | succ n =>
          have hhead := State.head?_chainFrom (s := s) n f.next
          rw [hnil] at hhead
          exact .inl (Option.map_eq_none_iff.mp hhead.symm)

/-- R11: what `State.before` reads from a chain in which the feature stands. -/
theorem State.before_of_chain {r : Wall} {k : Nat} {f : Feature} {before after : List (Nat × Feature)}
    (hchain : s.chain r = before ++ (k, f) :: after) (hfirst : ∀ e ∈ before, e.1 ≠ k) :
    s.before r k = before.getLast?.map Prod.fst := by
  have hstays : ∀ e ∈ before, decide (e.1 ≠ k) = true := fun e he => decide_eq_true (hfirst e he)
  rw [State.before, hchain, List.takeWhile_append_of_pos hstays, List.takeWhile_cons_of_neg (by simp), List.append_nil]

/-- R11: no feature stands before itself. -/
theorem State.before_ne {r : Wall} {k b : Nat} (h : s.before r k = some b) : b ≠ k := by
  obtain ⟨e, he, rfl⟩ := Option.map_eq_some_iff.mp h
  have hmem := List.mem_takeWhile_imp (List.mem_of_getLast? he)
  exact of_decide_eq_true hmem

end Chain

/-! ### A feature named by a request (R1) -/

section Named

variable {k : Nat} {body : Feature → State → Reply × State} {s : State}

theorem withFeature_of_outOfRange (hk : k < 1 ∨ 64 < k) : withFeature k body s = (Reply.refuse .outOfRange, s) :=
  if_pos hk

theorem withFeature_of_free (hk : ¬ (k < 1 ∨ 64 < k)) (hf : s.feature k = none) :
    withFeature k body s = s.refuseNoRecord .p none 2 k [] := by
  rw [withFeature, if_neg hk, hf]

theorem withFeature_of_some {f : Feature} (hk : ¬ (k < 1 ∨ 64 < k)) (hf : s.feature k = some f) :
    withFeature k body s = body f s := by
  rw [withFeature, if_neg hk, hf]

end Named

theorem State.feature_updateFeature (s : State) (k j : Nat) (g : Feature → Feature) :
    (s.updateFeature k g).feature j = if j = k then (s.feature j).map g else s.feature j := Table.find_update ..

/-! ### FEATURE DROP (R11) -/

/-- R11: the feature after another is linked to the one before it, and the other goes back to the pool. -/
def State.dropFeature (s : State) (k : Nat) (f : Feature) (r : Wall) : State :=
  { s.relink f.wall (s.before r k) f.next with
    features := Table.free (s.relink f.wall (s.before r k) f.next).features k }

section Drop

variable {tag : Byte} {k : Nat} {f : Feature} {r : Wall} {s : State}

theorem featureDrop_eq (hk : ¬ (k < 1 ∨ 64 < k)) (hf : s.feature k = some f) (hr : s.wall f.wall = some r) :
    featureDrop k s =
      if f.zSill < s.builtHeight f.wall r then (Reply.refuse .built, s)
      else if f.lintel.isSome then (Reply.refuse .lintel, s)
      else (Reply.okay, s.dropFeature k f r) := by
  have hwall : s.wallOf f = r := by rw [State.wallOf, hr]; rfl
  rw [featureDrop, withFeature_of_some hk hf, hwall]
  rfl

theorem State.dropFeature_feature_same : (s.dropFeature k f r).feature k = none := Table.find_free_same _ _

theorem State.dropFeature_feature_other {j : Nat} (hj : j ≠ k) :
    (s.dropFeature k f r).feature j = (s.relink f.wall (s.before r k) f.next).feature j := Table.find_free_other _ hj

theorem State.dropFeature_frame :
    s.dropFeature k f r =
      { s with walls := (s.dropFeature k f r).walls, features := (s.dropFeature k f r).features } := by
  unfold State.dropFeature
  rw [State.relink_frame]

theorem State.dropFeature_wall_other {v : Nat} (hv : v ≠ f.wall) : (s.dropFeature k f r).wall v = s.wall v := by
  exact (State.relink_wall s f.wall (s.before r k) f.next v).trans (if_neg hv)

/-- R11: the chain head is dropped. -/
theorem State.dropFeature_first (hr : s.wall f.wall = some r) (hb : s.before r k = none) :
    (s.dropFeature k f r).wall f.wall = some { r with chainHead := f.next } ∧
      ∀ j, j ≠ k → (s.dropFeature k f r).feature j = s.feature j := by
  refine ⟨(State.relink_wall s f.wall (s.before r k) f.next f.wall).trans ?_, fun j hj => ?_⟩
  · rw [if_pos rfl, hr, hb]
    rfl
  · rw [State.dropFeature_feature_other hj, hb]
    rfl

/-- R11: a feature after another is dropped. -/
theorem State.dropFeature_after {b : Nat} (hr : s.wall f.wall = some r) (hb : s.before r k = some b) :
    (s.dropFeature k f r).wall f.wall = some r ∧
      ∀ j, j ≠ k → (s.dropFeature k f r).feature j =
        if j = b then (s.feature j).map (fun g => { g with next := f.next }) else s.feature j := by
  refine ⟨(State.relink_wall s f.wall (s.before r k) f.next f.wall).trans ?_, fun j hj => ?_⟩
  · rw [if_pos rfl, hr, hb]
    rfl
  · rw [State.dropFeature_feature_other hj, hb]
    exact State.feature_updateFeature s b j _

end Drop

/-- Settles O19, by the walk of the chain and the bodies of the two requests. -/
theorem featureDropAndLintelSet : Obligations.FeatureDropAndLintelSet := by
  refine ⟨fun s r => ⟨State.head?_chainFrom 63 _, fun before after a b => State.chainFrom_link,
    fun a => State.chainFrom_last, fun before k f after hchain hfirst => ?_⟩, ?_, ?_, ?_, ?_, ?_⟩
  · have hbefore := State.before_of_chain hchain hfirst
    exact ⟨fun hnil => by rw [hbefore, hnil]; rfl, fun e he => by rw [hbefore, he]; rfl⟩
  · rintro tag k s _ _ rfl rfl hs
    refine ⟨fun hk => ?_, fun hk => ⟨fun hf => ?_, fun _ => trivial⟩⟩
    · exact answersUnchanged_of_body (by rfl) rfl hs (featureDrop_ignores k) nofun (withFeature_of_outOfRange hk)
    · exact refusesNoRecord_of_body (by rfl) rfl hs (featureDrop_ignores k) nofun (withFeature_of_free hk hf)
  · rintro tag k topZ bearing s _ _ rfl rfl hs
    have hi := lintelSet_ignores k topZ bearing
    refine ⟨fun hrange => ?_, fun hrange => ⟨fun hf => ?_, fun _ => ⟨?_, fun _ => trivial⟩⟩⟩
    · refine answersUnchanged_of_body (by rfl) rfl hs hi nofun ?_
      by_cases hb : bearing < 0 ∨ 3000 < bearing
      · exact if_pos hb
      · exact (if_neg hb).trans (withFeature_of_outOfRange (by omega))
    · exact refusesNoRecord_of_body (by rfl) rfl hs hi nofun
        ((if_neg (by omega)).trans (withFeature_of_free (by omega) hf))
    · rintro ⟨f, hf, hz⟩
      exact answersUnchanged_of_body (by rfl) rfl hs hi nofun
        ((if_neg (by omega)).trans ((withFeature_of_some (by omega) hf).trans (if_pos hz)))
  · intro tag k f r s hs h1 h64 hf hr hbuilt hlintel
    have he : featureDrop k s = (Reply.okay, s.dropFeature k f r) := by
      rw [featureDrop_eq (by omega) hf hr, if_neg (by omega), if_neg (by simp [hlintel])]
    obtain ⟨t, hnext, hans, ht⟩ := exec_of_body (by rfl) rfl hs (featureDrop_ignores k) nofun he
    have hwall := State.wall_of_withPortUnitOf ht
    have hfeature := State.feature_of_withPortUnitOf ht
    refine ⟨t, hnext, hans, (hfeature k).trans State.dropFeature_feature_same, fun hb => ?_, fun b hb => ?_,
      fun v hv => (hwall v).trans (State.dropFeature_wall_other hv),
      State.frame_of_walls_and_features ht State.dropFeature_frame⟩
    · obtain ⟨hhead, hkeep⟩ := State.dropFeature_first hr hb
      exact ⟨(hwall _).trans hhead, fun j hj => (hfeature j).trans (hkeep j hj)⟩
    · obtain ⟨hhead, hkeep⟩ := State.dropFeature_after hr hb
      exact ⟨(hwall _).trans hhead, fun j hj => (hfeature j).trans (hkeep j hj)⟩
  · rintro tag k f r s _ _ rfl rfl hs h1 h64 hf hr
    have hanswers : ∀ answer, featureDrop k s = (answer, s) →
        AnswersUnchanged s (.featureDrop tag k) ⟨.p, tag, 5⟩ answer :=
      fun _ he => answersUnchanged_of_body (by rfl) rfl hs (featureDrop_ignores k) nofun he
    rw [featureDrop_eq (by omega) hf hr] at hanswers
    exact ⟨fun hbuilt => hanswers _ (if_pos hbuilt), fun hbuilt => ⟨fun hlintel => hanswers _
      ((if_neg hbuilt).trans (if_pos (Option.isSome_iff_ne_none.mpr hlintel))), fun _ => trivial⟩⟩
  · intro tag k topZ bearing f s hs h1 h64 hf hb0 hb3000 hz hz24
    have he : lintelSet k topZ bearing s =
        if f.lintel.isSome then (Reply.refuse .lintelSet, s)
        else (Reply.okay, s.updateFeature k fun f => { f with lintel := some { topZ := topZ, bearing := bearing } }) :=
      (if_neg (by omega)).trans ((withFeature_of_some (by omega) hf).trans (if_neg (by omega)))
    refine ⟨fun hnone => ?_, fun hsome => ?_⟩
    · obtain ⟨t, hnext, hans, ht⟩ := exec_of_body (by rfl) rfl hs (lintelSet_ignores k topZ bearing) nofun
        (he.trans (if_neg (by simp [hnone])))
      have hfeature := State.feature_of_withPortUnitOf ht
      refine ⟨t, hnext, hans, ?_, fun j hj => ?_, ?_⟩
      · rw [hfeature, State.feature_updateFeature, if_pos rfl, hf]
        rfl
      · rw [hfeature, State.feature_updateFeature, if_neg hj]
      · rw [ht]
        rfl
    · exact answersUnchanged_of_body (by rfl) rfl hs (lintelSet_ignores k topZ bearing) nofun
        (he.trans (if_pos (Option.isSome_iff_ne_none.mpr hsome)))

end Sys2Proof.Machine
end

section
/-! CONFIG KIND, CONFIG PROFILE and CONFIG PARAM (01 R13 to R18). -/

namespace Sys2Proof.Machine

/-! ### Kinds and profiles (R13 to R15) -/

theorem State.kindInUse_iff (s : State) (k : Nat) : s.kindInUse k = true ↔ ∃ e ∈ s.courses, e.2.kind = k := by
  simp [State.kindInUse]

theorem State.profileInUse_iff (s : State) (k : Nat) : s.profileInUse k = true ↔ ∃ e ∈ s.courses, e.2.profile = k := by
  simp [State.profileInUse]

/-- Settles O20, by the checks of the two bodies in their order. -/
theorem configKindAndProfileWriteTheEntry : Obligations.ConfigKindAndProfileWriteTheEntry := by
  refine ⟨?_, ?_, ?_, ?_⟩
  · intro tag k length height bedDepth cmin lt s hs hk hl0 hl1 hh0 hh1 hb0 hb1 hc0 hc1 ht0 ht1 hunused hsaw
    have he : configKind k length height bedDepth cmin lt s = (Reply.okay, { s with
        kinds := Table.put s.kinds k
          { length := length, height := height, bedDepth := bedDepth, cmin := cmin, lt := lt.getD 30 } }) := by
      have hfree : ¬ s.kindInUse k = true := fun huse => by
        obtain ⟨e, he, hek⟩ := (s.kindInUse_iff k).mp huse
        exact hunused e he hek
      rw [configKind, if_neg (by omega), if_neg hfree, if_neg (not_not.mpr hsaw)]
    obtain ⟨t, hnext, hans, ht⟩ := exec_of_body (by rfl) rfl hs (configKind_ignores k length height bedDepth cmin lt) nofun he
    have hkinds := congrArg State.kinds ht
    refine ⟨t, hnext, hans, ?_, fun j hj => ?_, ?_⟩
    · exact (congrArg (Table.find · k) hkinds).trans (Table.find_put_same ..)
    · exact (congrArg (Table.find · j) hkinds).trans (Table.find_put_other _ _ hj)
    · rw [ht]
      rfl
  · rintro tag k length height bedDepth cmin lt s _ _ rfl rfl hs
    have hanswers : ∀ answer, configKind k length height bedDepth cmin lt s = (answer, s) →
        AnswersUnchanged s (.configKind tag k length height bedDepth cmin lt) ⟨.p, tag, 7⟩ answer :=
      fun _ he => answersUnchanged_of_body (by rfl) rfl hs (configKind_ignores k length height bedDepth cmin lt) nofun he
    refine ⟨fun hrange => hanswers _ (if_pos (by omega)), fun hrange => ⟨fun huse => hanswers _ ?_,
      fun huse => ⟨fun hsaw => hanswers _ ?_, fun _ => trivial⟩⟩⟩
    · exact (if_neg (by omega)).trans (if_pos ((s.kindInUse_iff k).mpr huse))
    · exact (if_neg (by omega)).trans ((if_neg (mt (s.kindInUse_iff k).mp huse)).trans (if_pos hsaw))
  · rintro tag k jn jmin jmax bn tOpen s _ _ rfl rfl hs
    have hanswers : ∀ answer, configProfile k jn jmin jmax bn tOpen s = (answer, s) →
        AnswersUnchanged s (.configProfile tag k jn jmin jmax bn tOpen) ⟨.p, tag, 8⟩ answer :=
      fun _ he => answersUnchanged_of_body (by rfl) rfl hs (configProfile_ignores k jn jmin jmax bn tOpen) nofun he
    refine ⟨fun hrange => hanswers _ (if_pos (by omega)), fun hrange => ⟨fun huse => hanswers _ ?_,
      fun huse => ⟨fun hsaw => hanswers _ ?_, fun _ => trivial⟩⟩⟩
    · exact (if_neg (by omega)).trans (if_pos ((s.profileInUse_iff k).mpr huse))
    · exact (if_neg (by omega)).trans ((if_neg (mt (s.profileInUse_iff k).mp huse)).trans (if_pos hsaw))
  · intro tag k jn jmin jmax bn tOpen s hs hk h20 hmin hmax h250 hb0 hb1 ht0 ht1 hunused hsaw
    have he : configProfile k jn jmin jmax bn tOpen s = (Reply.okay, { s with
        profiles := Table.put s.profiles k
          { jn := jn, jmin := jmin, jmax := jmax, bn := bn, tOpen := tOpen.getD 90000 } }) := by
      have hfree : ¬ s.profileInUse k = true := fun huse => by
        obtain ⟨e, he, hek⟩ := (s.profileInUse_iff k).mp huse
        exact hunused e he hek
      rw [configProfile, if_neg (by omega), if_neg hfree, if_neg (by omega)]
    obtain ⟨t, hnext, hans, ht⟩ := exec_of_body (by rfl) rfl hs (configProfile_ignores k jn jmin jmax bn tOpen) nofun he
    have hprofiles := congrArg State.profiles ht
    refine ⟨t, hnext, hans, ?_, fun j hj => ?_, ?_⟩
    · exact (congrArg (Table.find · k) hprofiles).trans (Table.find_put_same ..)
    · exact (congrArg (Table.find · j) hprofiles).trans (Table.find_put_other _ _ hj)
    · rw [ht]
      rfl

/-! ### Parameters (R16 to R18) -/

theorem setParam_of_mem {v lo hi : Int} {write : State → State} {s : State} (hlo : lo ≤ v) (hhi : v ≤ hi) :
    setParam v lo hi write s = (Reply.okWith (s32 v), write s) := if_neg (by omega)

theorem setParam_of_outOfRange {v lo hi : Int} {write : State → State} {s : State} (h : v < lo ∨ hi < v) :
    setParam v lo hi write s = (Reply.refuse .outOfRange, s) := if_pos h

theorem configEdgeSense_of_line {n : Nat} {line : Line} (hline : senseLine n = some line) (v : Int) (s : State) :
    configEdgeSense n v s =
      setParam v 0 1 (fun s => { s with senses := s.senses.put line (if v = 1 then .falling else .rising) }) s := by
  rw [configEdgeSense, hline]

theorem exists_senseLine {n : Nat} (h11 : 11 ≤ n) (h14 : n ≤ 14) : ∃ line, senseLine n = some line := by
  interval_cases n
  all_goals exact ⟨_, rfl⟩

theorem senseLine_eq_none {n : Nat} (h : n < 11 ∨ 14 < n) : senseLine n = none := by
  rw [senseLine, if_neg (by omega), if_neg (by omega), if_neg (by omega), if_neg (by omega)]

/-- A tolerance out of range is refused, whichever it is. -/
theorem configTolerance_outOfRange (n : Nat) {v : Int} (s : State) (hv : v < 0 ∨ 200 < v) :
    configTolerance n v s = (Reply.refuse .outOfRange, s) := by
  rw [configTolerance]
  iterate 5 rw [setParam_of_outOfRange hv]
  simp only [ite_self]

/-- R17: no held course, and every kind and profile valid under the new step. -/
theorem sawStepRefusal_eq_none {q : Int} {s : State} (hcourses : s.courses = []) (hkinds : ∀ e ∈ s.kinds, e.2.cmin % q = 0)
    (hprofiles : ∀ e ∈ s.profiles, e.2.jn + q ≤ e.2.jmax) : sawStepRefusal q s = none := by
  have hk : s.kinds.find? (fun e => decide (e.2.cmin % q ≠ 0)) = none :=
    List.find?_eq_none.mpr fun e he => by simp [hkinds e he]
  have hp : s.profiles.find? (fun e => decide (e.2.jmax < e.2.jn + q)) = none :=
    List.find?_eq_none.mpr fun e he => by simp [hprofiles e he]
  simp only [sawStepRefusal, hcourses, hk, hp, ne_eq, not_true_eq_false, if_false]

/-- In a table in its one form, what is found first has the lowest identifier of those that fit. -/
theorem Table.find?_of_lowest {α : Type} {lo hi : Nat} {t : List (Nat × α)} {p : Nat × α → Bool} {e : Nat × α}
    (ht : Table.canonical lo hi t) (he : e ∈ t) (hp : p e = true) (hlow : ∀ d ∈ t, p d = true → e.1 ≤ d.1) :
    t.find? p = some e := by
  obtain ⟨before, after, rfl⟩ := List.append_of_mem he
  refine List.find?_eq_some_iff_append.mpr ⟨hp, before, after, rfl, fun d hd => ?_⟩
  have hlt : d.1 < e.1 := (List.pairwise_append.mp ht.1).2.2 d hd e List.mem_cons_self
  rw [Bool.not_eq_true', Bool.eq_false_iff]
  exact fun hdp => absurd (hlow d (List.mem_append_left _ hd) hdp) (by omega)

/-- Settles O21, by the body of each parameter's request. -/
theorem configParamWritesTheParameter : Obligations.ConfigParamWritesTheParameter := by
  refine ⟨?_, ?_, ?_, ?_⟩
  · rintro tag v s t' i hs (⟨rfl, hlo, hhi, hcourses, hkinds, hprofiles, rfl⟩ | ⟨rfl, hlo, hhi, rfl⟩ | ⟨rfl, hlo, hhi, rfl⟩ |
      ⟨rfl, hlo, hhi, rfl⟩ | ⟨rfl, hlo, hhi, rfl⟩ | ⟨rfl, hlo, hhi, rfl⟩ | ⟨rfl, hlo, hhi, rfl⟩ | ⟨rfl, hlo, hhi, rfl⟩ |
      ⟨rfl, hlo, hhi, rfl⟩ | ⟨rfl, hlo, hhi, rfl⟩ | ⟨parameter, line, rfl, hlo, hhi, hline, rfl⟩)
    · refine exec_of_body (by rfl) rfl hs (configSawStep_ignores v) nofun ?_
      rw [configSawStep, if_neg (by omega), sawStepRefusal_eq_none hcourses hkinds hprofiles]
    · exact exec_of_body (by rfl) rfl hs (configMinimumLap_ignores v) nofun (setParam_of_mem hlo hhi)
    · exact exec_of_body (by rfl) rfl hs (configTolerance_ignores 3 v) nofun
        ((if_pos rfl).trans (setParam_of_mem hlo hhi))
    · exact exec_of_body (by rfl) rfl hs (configTolerance_ignores 4 v) nofun
        ((if_neg (by decide)).trans ((if_pos rfl).trans (setParam_of_mem hlo hhi)))
    · exact exec_of_body (by rfl) rfl hs (configTolerance_ignores 5 v) nofun ((if_neg (by decide)).trans
        ((if_neg (by decide)).trans ((if_pos rfl).trans (setParam_of_mem hlo hhi))))
    · exact exec_of_body (by rfl) rfl hs (configTolerance_ignores 6 v) nofun ((if_neg (by decide)).trans
        ((if_neg (by decide)).trans ((if_neg (by decide)).trans ((if_pos rfl).trans (setParam_of_mem hlo hhi)))))
    · exact exec_of_body (by rfl) rfl hs (configTolerance_ignores 7 v) nofun ((if_neg (by decide)).trans
        ((if_neg (by decide)).trans ((if_neg (by decide)).trans
          ((if_neg (by decide)).trans ((if_pos rfl).trans (setParam_of_mem hlo hhi))))))
    · exact exec_of_body (by rfl) rfl hs (configSetTime_ignores v) nofun (setParam_of_mem hlo hhi)
    · exact exec_of_body (by rfl) rfl hs (configDatumSkew_ignores v) nofun (setParam_of_mem hlo hhi)
    · exact exec_of_body (by rfl) rfl hs (configStrictReferences_ignores v) nofun (setParam_of_mem hlo hhi)
    · have hsense : senseLine parameter = some line := by
        rcases hline with ⟨rfl, rfl⟩ | ⟨rfl, rfl⟩ | ⟨rfl, rfl⟩ | ⟨rfl, rfl⟩
        all_goals rfl
      exact exec_of_body (by rfl) rfl hs (configEdgeSense_ignores parameter v) nofun
        ((configEdgeSense_of_line hsense v s).trans (setParam_of_mem hlo hhi))
  · rintro tag v lo hi s i hs hv (⟨rfl, rfl, rfl⟩ | ⟨rfl, rfl, rfl⟩ | ⟨n, -, -, rfl, rfl, rfl⟩ | ⟨rfl, rfl, rfl⟩ |
      ⟨rfl, rfl, rfl⟩ | ⟨rfl, rfl, rfl⟩ | ⟨n, h11, h14, rfl, rfl, rfl⟩)
    · exact answersUnchanged_of_body (by rfl) rfl hs (configSawStep_ignores v) nofun (if_pos hv)
    · exact answersUnchanged_of_body (by rfl) rfl hs (configMinimumLap_ignores v) nofun (setParam_of_outOfRange hv)
    · exact answersUnchanged_of_body (by rfl) rfl hs (configTolerance_ignores n v) nofun
        (configTolerance_outOfRange n s hv)
    · exact answersUnchanged_of_body (by rfl) rfl hs (configSetTime_ignores v) nofun (setParam_of_outOfRange hv)
    · exact answersUnchanged_of_body (by rfl) rfl hs (configDatumSkew_ignores v) nofun (setParam_of_outOfRange hv)
    · exact answersUnchanged_of_body (by rfl) rfl hs (configStrictReferences_ignores v) nofun (setParam_of_outOfRange hv)
    · obtain ⟨line, hline⟩ := exists_senseLine h11 h14
      exact answersUnchanged_of_body (by rfl) rfl hs (configEdgeSense_ignores n v) nofun
        ((configEdgeSense_of_line hline v s).trans (setParam_of_outOfRange hv))
  · intro tag n v s hs hn
    refine answersUnchanged_of_body (by rfl) rfl hs (configEdgeSense_ignores n v) nofun ?_
    rw [configEdgeSense, senseLine_eq_none hn]
  · rintro tag q s _ _ rfl rfl hs hcanonical hq0 hq20
    obtain ⟨-, -, hkinds, hprofiles, -, -, -⟩ := hcanonical
    have hanswers : ∀ answer, sawStepRefusal q s = some answer →
        AnswersUnchanged s (.configParamSawStep tag q) ⟨.p, tag, 9⟩ answer := fun answer hr => by
      refine answersUnchanged_of_body (by rfl) rfl hs (configSawStep_ignores q) nofun ?_
      rw [configSawStep, if_neg (by omega), hr]
    refine ⟨fun hheld => hanswers _ (if_pos hheld), fun hheld => ⟨fun _ e he hbad hlow => hanswers _ ?_,
      fun hvalid => ⟨fun _ e he hbad hlow => hanswers _ ?_, fun _ => trivial⟩⟩⟩
    · have hfind := Table.find?_of_lowest (p := fun e => decide (e.2.cmin % q ≠ 0)) hkinds he (decide_eq_true hbad)
        fun d hd hp => hlow d hd (of_decide_eq_true hp)
      rw [sawStepRefusal, if_neg hheld, hfind]
    · have hnone : s.kinds.find? (fun e => decide (e.2.cmin % q ≠ 0)) = none :=
        List.find?_eq_none.mpr fun d hd hp => hvalid ⟨d, hd, of_decide_eq_true hp⟩
      have hfind := Table.find?_of_lowest (p := fun e => decide (e.2.jmax < e.2.jn + q)) hprofiles he (decide_eq_true hbad)
        fun d hd hp => hlow d hd (of_decide_eq_true hp)
      rw [sawStepRefusal, if_neg hheld, hnone]
      simp only [hfind]

end Sys2Proof.Machine
end

section
/-! Reads: their answers, byte by byte, and their refusals (01 R6, R20; 03 R62 to R64; 04 R85 to R87; 05 R110; 08 R162;
09 R167, R171; 11 R192). -/

namespace Sys2Proof.Machine

/-! ### A course named by a request (R62) -/

section Named

variable {w n : Nat} {body : Nat → Course → State → Reply × State} {s : State}

theorem withCourse_of_outOfRange (h : ¬ (w ≤ 3 ∧ n ≤ 255)) : withCourse w n body s = (Reply.refuse .outOfRange, s) :=
  if_pos (by omega)

theorem withCourse_of_closed (h : w ≤ 3 ∧ n ≤ 255) (hw : s.wall w = none) :
    withCourse w n body s = s.refuseNoRecord .p none 1 w [] := by
  rw [withCourse, if_neg (by omega), hw]

theorem withCourse_of_notHeld (h : w ≤ 3 ∧ n ≤ 255) (hw : s.wall w ≠ none) (hc : s.heldCourse w n = none) :
    withCourse w n body s = s.refuseNoRecord .p none 3 (w * 256 + n) [] := by
  obtain ⟨r, hr⟩ := Option.ne_none_iff_exists'.mp hw
  rw [withCourse, if_neg (by omega), hr]
  simp only [hc]

theorem withCourse_of_held {e : Nat} {c : Course} (h : w ≤ 3 ∧ n ≤ 255) (hw : s.wall w ≠ none)
    (hc : s.heldCourse w n = some (e, c)) : withCourse w n body s = body e c s := by
  obtain ⟨r, hr⟩ := Option.ne_none_iff_exists'.mp hw
  rw [withCourse, if_neg (by omega), hr]
  simp only [hc]

end Named

/-! ### CONFIG READ (R20) -/

theorem Sense.paramValue_eq (sense : Sense) : sense.paramValue = if sense = .falling then 1 else 0 := by
  cases sense <;> rfl

theorem configRead_param {s : State} {n : Nat} {v : Int} (hv : s.paramValue n = some v) :
    configRead 3 n s = (Reply.okWith (s32 v ++ if n = 1 then yesNo s.sawFitted else []), s) := by
  rw [configRead, if_neg (by decide), if_neg (by decide), if_pos rfl, hv]

theorem State.paramValue_of_mem {s : State} {n : Nat} {v : Int}
    (h : (n, v) ∈ [(2, s.params.minimumLap), (3, s.params.tolX), (4, s.params.tolY), (5, s.params.tolZ),
      (6, s.params.tolEnd), (7, s.params.tolJoint), (8, (s.params.setTime : Int)), (9, s.params.maxSkew),
      (10, if s.params.strictReferences then 1 else 0), (11, if s.senses.arm = .falling then 1 else 0),
      (12, if s.senses.parked = .falling then 1 else 0), (13, if s.senses.ground = .falling then 1 else 0),
      (14, if s.senses.wind = .falling then 1 else 0)]) : n ≠ 1 ∧ s.paramValue n = some v := by
  simp only [List.mem_cons, Prod.mk.injEq, List.not_mem_nil, or_false, ← Sense.paramValue_eq] at h
  rcases h with ⟨rfl, rfl⟩ | ⟨rfl, rfl⟩ | ⟨rfl, rfl⟩ | ⟨rfl, rfl⟩ | ⟨rfl, rfl⟩ | ⟨rfl, rfl⟩ | ⟨rfl, rfl⟩ | ⟨rfl, rfl⟩ |
    ⟨rfl, rfl⟩ | ⟨rfl, rfl⟩ | ⟨rfl, rfl⟩ | ⟨rfl, rfl⟩ | ⟨rfl, rfl⟩
  all_goals exact ⟨by decide, rfl⟩

theorem State.paramValue_eq_none (s : State) {n : Nat} (h : n < 1 ∨ 14 < n) : s.paramValue n = none := by
  rw [State.paramValue, senseLine_eq_none (by omega)]
  iterate 10 rw [if_neg (by omega)]
  rfl

/-- R20: the refusals of CONFIG READ in order. -/
theorem configRead_firstOf {tag : Byte} {table n : Nat} {s : State} (hs : s.serves (.configRead tag table n) = true) :
    FirstOf
      [((table = 1 ∧ 7 < n) ∨ (table = 2 ∧ 3 < n) ∨ (table = 3 ∧ (n < 1 ∨ 14 < n)) ∨ table < 1 ∨ 3 < table,
          AnswersUnchanged s (.configRead tag table n) ⟨.p, tag, 10⟩ (Reply.refuse .outOfRange)),
        (table = 1 ∧ Table.find s.kinds n = none,
          RefusesNoRecord s (.configRead tag table n) ⟨.p, tag, 10⟩ (2 * 65536 + (100 + n) : Nat)),
        (table = 2 ∧ Table.find s.profiles n = none,
          RefusesNoRecord s (.configRead tag table n) ⟨.p, tag, 10⟩ (2 * 65536 + (200 + n) : Nat))] := by
  refine ⟨fun hout => ?_, fun hin => ⟨fun hnone => ?_, fun _ => ⟨fun hnone => ?_, fun _ => trivial⟩⟩⟩
  · refine answersUnchanged_of_body (by rfl) rfl hs (configRead_ignores table n) nofun ?_
    rcases hout with ⟨rfl, hn⟩ | ⟨rfl, hn⟩ | ⟨rfl, hn⟩ | htable
    · exact (if_pos rfl).trans (if_pos hn)
    · exact (if_neg (by decide)).trans ((if_pos rfl).trans (if_pos hn))
    · rw [configRead, if_neg (by decide), if_neg (by decide), if_pos rfl, s.paramValue_eq_none hn]
    · exact (if_neg (by omega)).trans ((if_neg (by omega)).trans (if_neg (by omega)))
  · obtain ⟨rfl, hfind⟩ := hnone
    refine refusesNoRecord_of_body (by rfl) rfl hs (configRead_ignores 1 n) nofun ?_
    rw [configRead, if_pos rfl, if_neg (by omega), hfind]
  · obtain ⟨rfl, hfind⟩ := hnone
    refine refusesNoRecord_of_body (by rfl) rfl hs (configRead_ignores 2 n) nofun ?_
    rw [configRead, if_neg (by decide), if_pos rfl, if_neg (by omega), hfind]

/-! ### COURSE READ (R64) -/

theorem State.courseField_eq (s : State) (e : Nat) (c : Course) :
    s.courseField e c =
      u8 e ++ u8 (if c.state = .loading then 1 else if c.state = .active then 2 else 3) ++ u8 c.kind ++ u8 c.profile ++
        s24Field c.baseZ ++ s24Field (c.baseZ + (s.kind c.kind).height) ++ u8 c.runCount ++
        optField c.runCount (fun (ids : List Nat) => ids.flatMap u8) c.runIds ++
        [SlotState.planned, .fed, .issued, .uncertain, .placed, .verified, .rejected].flatMap fun st =>
          u16 ((s.courseSlots c).filter fun x => x.2.state = st).length := by
  have hstate : c.state.value = if c.state = .loading then 1 else if c.state = .active then 2 else 3 := by
    cases c.state <;> rfl
  have hcount : s.countField c = fun st => u16 ((s.courseSlots c).filter fun x => x.2.state = st).length :=
    funext fun st => congrArg u16 List.countP_eq_length_filter
  rw [State.courseField, hstate, hcount]
  rfl

theorem State.receivedField_eq (s : State) (c : Course) :
    s.receivedField c = if c.state = .loading then u8 ((s.load.map fun l => l.received.length).getD 0) else [] := by
  by_cases h : c.state = .loading
  · rw [if_pos h]
    exact if_neg (by simp [Course.live, h])
  · rw [if_neg h]
    exact if_pos (by simp [Course.live, h])

section CourseRead

variable {w n e : Nat} {c : Course} {s : State}

theorem courseRead_course (h : w ≤ 3 ∧ n ≤ 255) (hw : s.wall w ≠ none) (hc : s.heldCourse w n = some (e, c)) :
    courseRead w n none s = (Reply.okWith (s.courseField e c ++
      (if c.state = .loading then u8 ((s.load.map fun l => l.received.length).getD 0) else [])), s) := by
  rw [courseRead, withCourse_of_held h hw hc, State.receivedField_eq]

theorem courseRead_run {o id : Nat} {r : Run} (h : w ≤ 3 ∧ n ≤ 255) (hw : s.wall w ≠ none)
    (hc : s.heldCourse w n = some (e, c)) (ho : o < c.runCount) (hlive : c.live = true)
    (hid : (c.runIds.getD [])[o]? = some id) (hr : s.run id = some r) :
    courseRead w n (some o) s = (Reply.okWith (s.courseField e c ++ s.runField c id r), s) := by
  have hreceived : s.receivedField c = [] := if_pos hlive
  rw [courseRead, withCourse_of_held h hw hc]
  simp only []
  rw [if_neg (by simp [hlive, ho]), hreceived, hid, Option.getD_some, hr, List.append_nil]
  rfl

theorem courseRead_noRun {o : Nat} (h : w ≤ 3 ∧ n ≤ 255) (hw : s.wall w ≠ none) (hc : s.heldCourse w n = some (e, c))
    (ho : c.state = .loading ∨ c.runCount ≤ o) : courseRead w n (some o) s = (Reply.refuse .outOfRange, s) := by
  rw [courseRead, withCourse_of_held h hw hc]
  exact if_pos (by simpa [Course.live, or_comm] using ho)

end CourseRead

/-! ### RUN SLACK (R85 to R87) -/

section RunSlack

variable {w n o e : Nat} {c : Course} {s : State}

theorem runSlack_eq (ho : o ≤ 7) (h : w ≤ 3 ∧ n ≤ 255) (hw : s.wall w ≠ none) (hc : s.heldCourse w n = some (e, c)) :
    runSlack w n o s =
      if (!c.live || c.runCount ≤ o) = true then (Reply.refuse .outOfRange, s)
      else (Reply.okWith (s.slackField w n o c ((c.runIds.getD [])[o]?.getD 0)
        ((s.run ((c.runIds.getD [])[o]?.getD 0)).getD Run.blank)), s) := by
  rw [runSlack, if_neg (by omega), withCourse_of_held h hw hc]

theorem State.firstUnlaid_eq {r : Run} {k : Nat} (hk : k ≤ (s.slotsAt r.slotIds).length)
    (hlaid : ∀ j e, j < k → (s.slotsAt r.slotIds)[j]? = some e → e.2.state = .placed ∨ e.2.state = .verified)
    (hfirst : ∀ e, (s.slotsAt r.slotIds)[k]? = some e → e.2.state ≠ .placed ∧ e.2.state ≠ .verified) :
    s.firstUnlaid r = k := by
  rw [State.firstUnlaid]
  have hbefore : ∀ j (hj : j < k), ¬ (decide (((s.slotsAt r.slotIds)[j]'(by omega)).2.state ≠ .placed ∧
      ((s.slotsAt r.slotIds)[j]'(by omega)).2.state ≠ .verified)) = true := fun j hj hp => by
    obtain ⟨h1, h2⟩ := of_decide_eq_true hp
    exact (hlaid j _ hj (List.getElem?_eq_getElem _)).elim h1 h2
  rcases hk.lt_or_eq with hlt | rfl
  · refine (List.findIdx_eq hlt).mpr ⟨decide_eq_true (hfirst _ (List.getElem?_eq_getElem hlt)), fun j hj => ?_⟩
    exact Bool.eq_false_iff.mpr (hbefore j hj)
  · refine List.findIdx_eq_length_of_false fun x hx => ?_
    obtain ⟨j, hj, rfl⟩ := List.getElem_of_mem hx
    exact Bool.eq_false_iff.mpr (hbefore j hj)

theorem limitFace_eq (f : Int) : limitFace f = max (-7888608) (min 7884357 f) := by
  unfold limitFace
  split_ifs <;> omega

/-- R86: the face and the joints of the first slot that is not laid. -/
theorem State.slackFace_eq {r : Run} {k : Nat} {face joints : Int} {measured : Option Bool}
    (h : (k = 0 ∧ face = r.start ∧ joints = (r.n : Int) - 1 ∧ measured = none) ∨
      (1 ≤ k ∧ k ≤ r.n ∧ ∃ e f m, (s.slotsAt r.slotIds)[k - 1]? = some e ∧ s.knownFace e.2 = some (f, m) ∧
        face = (if k < r.n then max (-7888608) (min 7884357 f) else f) ∧ joints = (r.n : Int) - k ∧
        measured = some m)) :
    s.slackFace r k = (face, measured) ∧ slackJoints r k = joints := by
  rcases h with ⟨rfl, rfl, rfl, rfl⟩ | ⟨hk, -, e, f, m, he, hknown, rfl, rfl, rfl⟩
  · exact ⟨rfl, rfl⟩
  · refine ⟨?_, if_neg (by omega)⟩
    rw [State.slackFace, if_neg (by omega), he]
    simp only [hknown, limitFace_eq]

end RunSlack

/-- R85: the refusals of RUN SLACK in order. -/
theorem runSlack_firstOf {tag : Byte} {w n o : Nat} {s : State} (hs : s.serves (.runSlack tag w n o) = true) :
    FirstOf
      [(¬ (w ≤ 3 ∧ n ≤ 255 ∧ o ≤ 7),
          AnswersUnchanged s (.runSlack tag w n o) ⟨.p, tag, 19⟩ (Reply.refuse .outOfRange)),
        (s.wall w = none, RefusesNoRecord s (.runSlack tag w n o) ⟨.p, tag, 19⟩ (1 * 65536 + w : Nat)),
        (∀ e ∈ s.courses, ¬ (e.2.wall = w ∧ e.2.number = n),
          RefusesNoRecord s (.runSlack tag w n o) ⟨.p, tag, 19⟩ (3 * 65536 + (w * 256 + n) : Nat)),
        (∃ e c, s.heldCourse w n = some (e, c) ∧ (c.state = .loading ∨ c.runCount ≤ o),
          AnswersUnchanged s (.runSlack tag w n o) ⟨.p, tag, 19⟩ (Reply.refuse .outOfRange))] := by
  have hi := runSlack_ignores w n o
  refine ⟨fun hout => ?_, fun hin => ?_⟩
  · refine answersUnchanged_of_body (by rfl) rfl hs hi nofun ?_
    by_cases ho : 7 < o
    · exact if_pos ho
    · exact (if_neg ho).trans (withCourse_of_outOfRange (by omega))
  · obtain ⟨hw3, hn, ho⟩ := not_not.mp hin
    refine ⟨fun hw => ?_, fun hw => ⟨fun hc => ?_, fun _ => ⟨?_, fun _ => trivial⟩⟩⟩
    · exact refusesNoRecord_of_body (by rfl) rfl hs hi nofun
        ((if_neg (by omega)).trans (withCourse_of_closed ⟨hw3, hn⟩ hw))
    · exact refusesNoRecord_of_body (by rfl) rfl hs hi nofun
        ((if_neg (by omega)).trans (withCourse_of_notHeld ⟨hw3, hn⟩ hw (State.heldCourse_none_iff.mpr hc)))
    · rintro ⟨e, c, hc, hout⟩
      refine answersUnchanged_of_body (by rfl) rfl hs hi nofun ((runSlack_eq ho ⟨hw3, hn⟩ hw hc).trans (if_pos ?_))
      simpa [Course.live] using hout

/-! ### SLOT READ (R63, R192) -/

theorem withSlot_of_some {port : Port} {id : Nat} {body : Slot → State → Reply × State} {s : State} {sl : Slot}
    (hid : id < 512) (hsl : s.slot id = some sl) : withSlot port id body s = body sl s := by
  rw [withSlot, if_neg (show ¬ slotCapacity ≤ id from Nat.not_le.mpr hid), hsl]

@[simp] theorem s24Field_length (z : Int) : (s24Field z).length = 3 := by
  unfold s24Field
  split <;> rfl

theorem supportsField_length (ids : List Nat) : (supportsField ids).length = 8 := by
  rw [supportsField, List.length_flatMap]
  simp only [u16_length, List.map_const', List.sum_replicate, List.length_take, List.length_append,
    List.length_replicate]
  simp

@[simp] theorem flagsByte_length (flags : List Bool) : (flagsByte flags).length = 1 := rfl

@[simp] theorem bytes32_length (v : BitVec 32) : (bytes32 v).length = 4 := rfl

theorem measurementField_eq (m : Option Measurement) :
    measurementField m = s24Field ((m.map Measurement.xRight).getD 0) ++ s24Field ((m.map Measurement.yOff).getD 0) ++
      s24Field ((m.map Measurement.zTop).getD 0) := by
  cases m <;> rfl

theorem measurementField_length (m : Option Measurement) : (measurementField m).length = 9 := by
  cases m <;> simp [measurementField]

/-- R192: 54 bytes, with the answer and the reason. -/
theorem slotField_payload_length (s : State) (id : Nat) (sl : Slot) :
    (Reply.okWith (s.slotField id sl)).payload.length = 54 := by
  have hfield : (s.slotField id sl).length = 52 := by
    unfold State.slotField
    iterate 24 rw [List.length_append]
    rw [supportsField_length, measurementField_length, s24Field_length, s24Field_length]
    rfl
  rw [Reply.payload, List.length_append, show (Reply.okWith (s.slotField id sl)).detail = s.slotField id sl from rfl,
    hfield]
  rfl

theorem State.slotField_eq (s : State) (id : Nat) (sl : Slot) :
    s.slotField id sl =
      u16 id ++ u8 sl.course ++ u8 (s.courseOf sl).wall ++ u8 (s.courseOf sl).number ++ u8 sl.run ++
        u8 (s.runOf sl).order ++ u8 sl.index ++ u8 sl.kind ++ u8 sl.state.value ++
        flagsByte [sl.closer, sl.lintelSupported, sl.reapply, sl.predicted, sl.clamped, sl.cold, sl.accepted] ++
        flagsByte [sl.plannedJoint.isSome, sl.cutLength.isSome, sl.generation.isSome, sl.gauged.isSome,
          sl.targetLeft.isSome, sl.placedTime.isSome, sl.measurement.isSome, sl.rejectReasons ≠ []] ++
        s24Field sl.plannedLeft ++ u8 (sl.plannedJoint.getD 0).toNat ++
        u16 (if sl.closer then (s.runOf sl).closerLength.getD 0 else (s.kind sl.kind).length).toNat ++
        u8 sl.supports.length ++ ((sl.supports ++ [0, 0, 0, 0]).take 4).flatMap u16 ++ u16 (sl.cutLength.getD 0).toNat ++
        [sl.generation.getD 0] ++ u16 (sl.gauged.getD 0).toNat ++ s24Field (sl.targetLeft.getD 0) ++
        u8 (sl.targetJoint.getD 0).toNat ++ bytes32 (sl.placedTime.getD 0) ++
        s24Field ((sl.measurement.map Measurement.xRight).getD 0) ++
        s24Field ((sl.measurement.map Measurement.yOff).getD 0) ++
        s24Field ((sl.measurement.map Measurement.zTop).getD 0) ++
        flagsByte [.joint ∈ sl.rejectReasons, .position ∈ sl.rejectReasons, .endFace ∈ sl.rejectReasons,
          .plane ∈ sl.rejectReasons, .height ∈ sl.rejectReasons, .missing ∈ sl.rejectReasons,
          .coldJoint ∈ sl.rejectReasons] ++
        u16 (s.currentLength sl).toNat := by
  have hnonempty : (!sl.rejectReasons.isEmpty) = decide (sl.rejectReasons ≠ []) := by cases sl.rejectReasons <;> rfl
  have hmem : ∀ x, sl.rejectReasons.contains x = decide (x ∈ sl.rejectReasons) := fun x =>
    List.contains_eq_mem x sl.rejectReasons
  have hreasons : reasonBits sl.rejectReasons =
      flagsByte [.joint ∈ sl.rejectReasons, .position ∈ sl.rejectReasons, .endFace ∈ sl.rejectReasons,
        .plane ∈ sl.rejectReasons, .height ∈ sl.rejectReasons, .missing ∈ sl.rejectReasons,
        .coldJoint ∈ sl.rejectReasons] := by simp only [reasonBits, hmem]
  unfold State.slotField
  rw [slotPresenceField, hnonempty, hreasons, measurementField_eq, ← List.append_assoc, ← List.append_assoc]
  rfl

/-! ### The statement -/

/-- Settles O15, by the body of each read. -/
theorem readsChangeNothing : Obligations.ReadsChangeNothing := by
  refine ⟨?_, slotField_payload_length, State.courseField_eq, by decide, by decide, ?_, ?_, ?_, ?_, ?_⟩
  · intro tag s i code fields hs h
    rcases h with h | h | h | h | h | h | h | h | h | h | h | h | h | h | h
    · obtain ⟨w, start, r, rfl, rfl, hw, hr, hf⟩ := h
      rw [hf]
      refine answersUnchanged_of_body (by rfl) rfl hs (wallRead_ignores w start) nofun ?_
      rw [wallRead, if_neg (by omega), hr]
      rfl
    · obtain ⟨w, start, rfl, rfl, hw, hr, hf⟩ := h
      rw [hf]
      refine answersUnchanged_of_body (by rfl) rfl hs (wallRead_ignores w start) nofun ?_
      rw [wallRead, if_neg (by omega), hr]
    · obtain ⟨n, v, rfl, rfl, hv, hf⟩ := h
      rw [hf]
      obtain ⟨hn, hv⟩ := State.paramValue_of_mem hv
      exact answersUnchanged_of_body (by rfl) rfl hs (configRead_ignores 3 n) nofun
        ((configRead_param hv).trans (by rw [if_neg hn, List.append_nil]))
    · obtain ⟨rfl, rfl, hf⟩ := h
      rw [hf]
      exact answersUnchanged_of_body (by rfl) rfl hs (configRead_ignores 3 1) nofun (configRead_param rfl)
    · obtain ⟨n, k, rfl, rfl, hn, hk, hf⟩ := h
      rw [hf]
      refine answersUnchanged_of_body (by rfl) rfl hs (configRead_ignores 1 n) nofun ?_
      rw [configRead, if_pos rfl, if_neg (by omega), hk]
    · obtain ⟨n, k, rfl, rfl, hn, hk, hf⟩ := h
      rw [hf]
      refine answersUnchanged_of_body (by rfl) rfl hs (configRead_ignores 2 n) nofun ?_
      rw [configRead, if_neg (by decide), if_pos rfl, if_neg (by omega), hk]
    · obtain ⟨w, n, e, c, rfl, rfl, hw, hn, hwall, hc, hf⟩ := h
      rw [hf]
      exact answersUnchanged_of_body (by rfl) rfl hs (courseRead_ignores w n none) nofun
        (courseRead_course ⟨hw, hn⟩ (Option.isSome_iff_ne_none.mp hwall) hc)
    · obtain ⟨w, n, o, e, c, id, r, rfl, rfl, hw, hn, ho, hlive, hwall, hc, hid, hr, hf⟩ := h
      rw [hf]
      refine answersUnchanged_of_body (by rfl) rfl hs (courseRead_ignores w n (some o)) nofun
        ((courseRead_run ⟨hw, hn⟩ (Option.isSome_iff_ne_none.mp hwall) hc ho hlive hid hr).trans ?_)
      rw [State.runField]
      simp only [← List.append_assoc]
      rfl
    · obtain ⟨id, sl, rfl, rfl, hid, hsl, hf⟩ := h
      rw [hf, ← State.slotField_eq]
      exact answersUnchanged_of_body (by rfl) rfl hs (slotRead_ignores id) nofun (withSlot_of_some hid hsl)
    · obtain ⟨w, n, o, e, c, id, r, rfl, rfl, hw, hn, ho7, ho, hlive, hwall, hc, hid, hr, hf⟩ := h
      rw [hf]
      refine answersUnchanged_of_body (by rfl) rfl hs (runSlack_ignores w n o) nofun
        ((runSlack_eq ho7 ⟨hw, hn⟩ (Option.isSome_iff_ne_none.mp hwall) hc).trans ?_)
      rw [if_neg (by simp [hlive, ho]), hid, Option.getD_some, hr, Option.getD_some]
    · obtain ⟨rfl, rfl, hf⟩ := h
      rw [hf]
      refine answersUnchanged_of_body (by rfl) rfl hs queueRead_ignores nofun ?_
      rw [queueRead, State.reportedCandidate]
      simp only [StationState.inUse_iff]
      rfl
    · obtain ⟨rfl, rfl, hf⟩ := h
      rw [hf]
      exact answersUnchanged_of_body (by rfl) rfl hs stationRead_ignores nofun rfl
    · obtain ⟨rfl, rfl, hf⟩ := h
      rw [hf]
      exact answersUnchanged_of_body (by rfl) rfl hs status_ignores nofun rfl
    · obtain ⟨rfl, rfl, hf⟩ := h
      rw [hf]
      exact answersUnchanged_of_body (by rfl) rfl hs (captureRead_ignores 1) nofun (if_pos rfl)
    · obtain ⟨rfl, rfl, hf⟩ := h
      rw [hf]
      exact answersUnchanged_of_body (by rfl) rfl hs (captureRead_ignores 2) nofun
        ((if_neg (by decide)).trans (if_pos rfl))
  · intro tag w start s hs hw
    exact answersUnchanged_of_body (by rfl) rfl hs (wallRead_ignores w start) nofun (if_pos hw)
  · rintro tag table n s _ _ rfl rfl hs
    exact configRead_firstOf hs
  · rintro tag w n order s _ _ rfl rfl hs
    have hi := courseRead_ignores w n order
    refine ⟨fun hout => ?_, fun hin => ⟨fun hw => ?_, fun hw => ⟨fun hc => ?_, fun _ => ⟨?_, fun _ => trivial⟩⟩⟩⟩
    · exact answersUnchanged_of_body (by rfl) rfl hs hi nofun (withCourse_of_outOfRange hout)
    · exact refusesNoRecord_of_body (by rfl) rfl hs hi nofun (withCourse_of_closed (not_not.mp hin) hw)
    · exact refusesNoRecord_of_body (by rfl) rfl hs hi nofun
        (withCourse_of_notHeld (not_not.mp hin) hw (State.heldCourse_none_iff.mpr hc))
    · rintro ⟨o, e, c, rfl, hc, ho⟩
      exact answersUnchanged_of_body (by rfl) rfl hs hi nofun (courseRead_noRun (not_not.mp hin) hw hc ho)
  · rintro tag w n o s _ _ rfl rfl hs
    exact runSlack_firstOf hs
  · intro s w number order c id r k face joints g measured hk hlaid hfirst hface hg
    obtain ⟨hslack, hjoints⟩ := State.slackFace_eq hface
    rw [State.slackField, State.firstUnlaid_eq hk hlaid hfirst, hslack, hjoints, State.gap, State.brem, ← hg]

end Sys2Proof.Machine
end

section
/-! RUN ENTRY: a run joins the load, and the last one commits the course or is refused (02 R26, R30, R39 to R41). -/

namespace Sys2Proof.Machine

/-! ### A run joins the load (R26) -/

/-- Settles O23, by the body of RUN ENTRY. -/
theorem runEntryJoinsTheLoad : Obligations.RunEntryJoinsTheLoad := by
  intro tag start stop s hs
  refine ⟨fun l hload hmore => ?_, fun hload => ?_⟩
  · obtain ⟨t, hnext, hans, ht⟩ := exec_of_body (by rfl) rfl hs (runEntry_ignores start stop) nofun
      ((runEntry_of_load start stop hload).trans (if_pos hmore))
    refine ⟨t, hnext, hans, congrArg State.load ht, ?_⟩
    rw [ht]
    rfl
  · exact answersUnchanged_of_body (by rfl) rfl hs (runEntry_ignores start stop) nofun (by rw [runEntry, hload])

/-! ### The last run commits the course (R30) -/

/-- R26: the state once a run has joined the load. -/
def State.joinRun (s : State) (l : Load) (run : Int × Int) : State := { s with load := some (l.joined run s.siteTime) }

/-- The checks of a commit do not read the load. -/
theorem commitChecks_joinRun (s : State) (l : Load) (run : Int × Int) (r : Wall) (c : Course) (runs : List (Int × Int)) :
    commitChecks (s.joinRun l run) r c runs = commitChecks s r c runs := rfl

section Commit

variable {s : State} {entry : Nat} {c : Course} {r : Wall} {runs : List (Int × Int)} (hc : s.course entry = some c)
  (hr : s.wall c.wall = some r)
include hc hr

theorem commit_of_ok {plans : List RunPlan} (hpass : commitChecks s r c runs = .ok plans) :
    commit s entry runs = allocate s entry c plans := by
  rw [commit, hc, Option.getD_some, hr, Option.getD_some, hpass]

theorem commit_of_error {refusal : Reply} (hrefusal : commitChecks s r c runs = .error refusal) :
    commit s entry runs = (refusal, s.dropLoad) := by
  rw [commit, hc, Option.getD_some, hr, Option.getD_some, hrefusal]

end Commit

section Last

variable {start stop : Int} {l : Load} {c : Course} {r : Wall} {s : State}
  (hload : s.load = some l) (hlast : l.expected = 1) (hc : s.course l.entry = some c) (hr : s.wall c.wall = some r)
include hload hlast hc hr

theorem runEntry_commits {plans : List RunPlan}
    (hpass : commitChecks s r c (l.received ++ [(start, stop)]) = .ok plans) :
    runEntry start stop s =
      allocate (s.joinRun l (start, stop)) l.entry c plans := by
  rw [runEntry_of_load start stop hload, if_neg (by omega)]
  exact commit_of_ok (s := s.joinRun l (start, stop)) hc hr ((commitChecks_joinRun ..).trans hpass)

theorem runEntry_refused {refusal : Reply}
    (hrefusal : commitChecks s r c (l.received ++ [(start, stop)]) = .error refusal) :
    runEntry start stop s = (refusal, (s.joinRun l (start, stop)).dropLoad) := by
  rw [runEntry_of_load start stop hload, if_neg (by omega)]
  exact commit_of_error (s := s.joinRun l (start, stop)) hc hr ((commitChecks_joinRun ..).trans hrefusal)

end Last

/-! ### The ids that are taken (R39) -/

/-- In a rising list, what stands below a taken element is taken too. -/
theorem mem_take_of_lt {l : List Nat} {n i j : Nat} (hl : l.Pairwise (· < ·)) (hi : i ∈ l.take n) (hj : j ∈ l)
    (hlt : j < i) : j ∈ l.take n := by
  rw [← List.take_append_drop n l] at hl hj
  rcases List.mem_append.mp hj with h | h
  · exact h
  · exact absurd ((List.pairwise_append.mp hl).2.2 i hi j h) (by omega)

theorem Table.mem_unused_iff {α : Type} {t : List (Nat × α)} {first count k : Nat} :
    k ∈ Table.unused t first count ↔ (first ≤ k ∧ k < first + count) ∧ Table.find t k = none := by
  rw [Table.unused, List.mem_filter, List.mem_range'_1, Option.isNone_iff_eq_none]

theorem Table.takenLowestFirst_take_unused {α : Type} (t : List (Nat × α)) (count n : Nat) :
    takenLowestFirst ((Table.unused t 0 count).take n) fun id => Table.find t id = none := by
  have hrising := Table.unused_pairwise t 0 count
  refine ⟨hrising.sublist (List.take_sublist _ _), fun id hid => ?_⟩
  obtain ⟨⟨-, hlt⟩, hfree⟩ := Table.mem_unused_iff.mp (List.mem_of_mem_take hid)
  exact ⟨hfree, fun j hj hjfree =>
    mem_take_of_lt hrising hid (Table.mem_unused_iff.mpr ⟨⟨j.zero_le, hj.trans hlt⟩, hjfree⟩) hj⟩

section Allocated

variable {s : State} {entry : Nat} {c : Course} {runs : List (Int × Int)} {plans : List RunPlan}

theorem State.Allocates.run_taken (h : s.Allocates runs plans) {id : Nat} (hid : id ∈ s.freeRuns plans) :
    (allocate s entry c plans).2.run id ≠ none := by
  obtain ⟨i, hi⟩ := List.mem_iff_getElem?.mp hid
  obtain ⟨p, hp⟩ := exists_getElem?_of_length h.runIds.symm hi
  obtain ⟨mine, hmine⟩ := exists_getElem?_of_length (shares_length plans (s.freeSlots plans)) hp
  rw [h.run_new hp hi hmine]
  exact Option.some_ne_none _

/-- R39: as many slots are taken as are planned. -/
theorem State.Allocates.slots_length (h : s.Allocates runs plans) :
    (allocate s entry c plans).2.slots.length = s.slots.length + totalSlots plans := by
  have hkeys := h.slots_keys (entry := entry) c.kind
  have hnodup : (s.freeSlots plans).Nodup := State.freeSlots_pairwise.imp Nat.ne_of_lt
  have hperm := Table.putAll_perm (t := s.slots) (by rwa [hkeys])
    fun e he => State.slot_of_free (hkeys ▸ List.mem_map_of_mem (f := Prod.fst) he : e.1 ∈ s.freeSlots plans)
  have hcount := congrArg List.length hkeys
  rw [List.length_map, h.slotIds] at hcount
  rw [allocate_slots, hperm.length_eq, List.length_append, hcount, Nat.add_comm]

end Allocated

/-- Settles O24, by what the allocation leaves of each table. -/
theorem lastRunEntryCommitsTheCourse : Obligations.LastRunEntryCommitsTheCourse := by
  intro tag start stop l c r plans s hs hcanonical hload hlast hc hr hpass
  have hall : (s.joinRun l (start, stop)).Allocates (l.received ++ [(start, stop)]) plans :=
    State.allocates (s := s.joinRun l (start, stop)) hcanonical ((commitChecks_joinRun ..).trans hpass)
  have he := runEntry_commits hload hlast hc hr hpass
  rw [← Prod.mk.eta (p := allocate _ _ _ _)] at he
  obtain ⟨t, hnext, hans, ht⟩ := exec_of_body (by rfl) rfl hs (runEntry_ignores start stop) nofun he
  have hrun := State.run_of_withPortUnitOf ht
  have hslot := State.slot_of_withPortUnitOf ht
  have hwall := State.wall_of_withPortUnitOf ht
  have hcourse := State.course_of_withPortUnitOf ht
  have hframe := allocate_frame (s.joinRun l (start, stop)) l.entry c plans
  refine ⟨t, _, shares plans ((s.joinRun l (start, stop)).freeSlots plans), hnext, hans, ?_, ?_, hall.runIds,
    fun id hid => ⟨State.run_of_free hid, (hrun id).symm ▸ hall.run_taken hid⟩,
    Table.takenLowestFirst_take_unused _ _ _, shares_length _ _, ?_, ?_, fun e he => ?_, ?_, fun v hv => ?_,
    fun id run hold => (hrun id).trans (hall.run_old hold), fun id sl hold => (hslot id).trans (hall.slot_old hold), ?_, ?_, ?_⟩
  · rw [ht, hframe]
    rfl
  · rw [hcourse, allocate_course, if_pos rfl]
    exact congrArg (Option.map _) hc
  · rw [shares_flatten hall.slotIds]
    exact Table.takenLowestFirst_take_unused _ _ _
  · intro i plan id mine hplan hid hmine
    obtain ⟨run, hspan, hplace⟩ := hall.places i plan hplan
    have hlength := length_share hall.slotIds hplan hmine
    refine ⟨hplace.order, hplace.span ▸ hspan, hlength, ?_, fun j p slot hp hj => ?_⟩
    · rw [hrun, hall.run_new hplan hid hmine, RunPlan.record, hplace.order]
    · rw [hslot, hall.slot_new hplan hid hmine hp hj, SlotPlan.record, hplace.slot_index hp]
  · rw [hcourse, allocate_course, if_neg he]
    rfl
  · rw [hwall, allocate_wall, if_pos rfl]
    exact congrArg (Option.map _) hr
  · rw [hwall, allocate_wall, if_neg hv]
    rfl
  · intro id sl hfree hsl
    rw [hslot] at hsl
    rcases hall.slot_cases hsl with hold | ⟨_, _, _, _, _, _, _, _, _, _, _, rfl⟩
    · exact absurd (hfree.symm.trans hold) nofun
    · exact ⟨rfl, rfl⟩
  · rw [ht]
    exact hall.slots_length
  · rw [ht, hframe]
    rfl

/-! ### The last run is refused (R30) -/

/-- R30: a refused commit answers with the refusal and leaves the courses without the entry of the load, and no load. -/
theorem lastRunEntry_refused {tag : Byte} {start stop : Int} {l : Load} {c : Course} {r : Wall} {refusal : Reply} {s : State}
    (hs : s.serves (.runEntry tag start stop) = true) (hload : s.load = some l) (hlast : l.expected = 1)
    (hc : s.course l.entry = some c) (hr : s.wall c.wall = some r)
    (hrefusal : commitChecks s r c (l.received ++ [(start, stop)]) = .error refusal) :
    ∃ t, exec (.runEntry tag start stop) s = .next t ∧
      Answered s (.runEntry tag start stop) ⟨.p, tag, 12⟩ t refusal ∧
      t.course l.entry = none ∧ (∀ e, e ≠ l.entry → t.course e = s.course e) ∧
      t = { s.withPortUnitOf t with courses := t.courses, load := none } := by
  obtain ⟨t, hnext, hans, ht⟩ := exec_of_body (by rfl) rfl hs (runEntry_ignores start stop) nofun
    (runEntry_refused hload hlast hc hr hrefusal)
  have hcourse := State.course_of_withPortUnitOf ht
  have hentry (e : Nat) : ((s.joinRun l (start, stop)).load.any fun l => l.entry = e) = decide (l.entry = e) := rfl
  refine ⟨t, hnext, hans, ?_, fun e he => ?_, ?_⟩
  · rw [hcourse, State.dropLoad_course, hentry, if_pos (decide_eq_true rfl)]
  · rw [hcourse, State.dropLoad_course, hentry, if_neg (by simpa using Ne.symm he)]
    rfl
  · rw [State.dropLoad_frame] at ht
    rw [ht]
    rfl

end Sys2Proof.Machine
end

section
/-! The seven checks of a commit, in their order (02 R30 to R33, R42, R44, R45). -/

namespace Sys2Proof.Machine

/-! ### A check made place by place: the first place that gives an answer answers -/

section Scan

variable {gives : Nat → Reply → Prop} {a : Reply}

theorem firstAt_iff : FirstAt gives a ↔
    gives 0 a ∨ ((∀ b, ¬ gives 0 b) ∧ FirstAt (fun i => gives (i + 1)) a) := by
  constructor
  · rintro ⟨i, hi, hfirst⟩
    cases i with
    | zero => exact .inl hi
    | succ i => exact .inr ⟨hfirst 0 i.succ_pos, i, hi, fun j hj => hfirst (j + 1) (by omega)⟩
  · rintro (h | ⟨h0, i, hi, hfirst⟩)
    · exact ⟨0, h, fun j hj => absurd hj j.not_lt_zero⟩
    · refine ⟨i + 1, hi, fun j hj => ?_⟩
      cases j with
      | zero => exact h0
      | succ j => exact hfirst j (by omega)

theorem exists_firstAt {i : Nat} (h : gives i a) : ∃ b, FirstAt gives b := by
  induction i using Nat.strong_induction_on generalizing a with
  | _ i ih =>
    by_cases hlower : ∃ j b, j < i ∧ gives j b
    · obtain ⟨j, b, hj, hb⟩ := hlower
      exact ih j hj hb
    · exact ⟨a, i, h, fun j hj b hb => hlower ⟨j, b, hj, hb⟩⟩

/-- The refusal that a check of a list gives is that of the first place that gives one. -/
structure Scans (refusal : Option Reply) (gives : Nat → Reply → Prop) : Prop where
  first : ∀ a, FirstAt gives a → refusal = some a
  passes : (¬ ∃ i a, gives i a) → refusal = none

theorem Scans.nil (h : ∀ i a, ¬ gives i a) : Scans none gives :=
  ⟨fun a ⟨i, hi, _⟩ => absurd hi (h i a), fun _ => rfl⟩

/-- One place more at the head. -/
theorem Scans.cons {head rest : Option Reply} (hhead : ∀ a, gives 0 a ↔ head = some a)
    (hrest : Scans rest fun i => gives (i + 1)) : Scans (head.or rest) gives := by
  constructor
  case first =>
    intro a ha
    rcases firstAt_iff.mp ha with h0 | ⟨h0, hlater⟩
    · rw [(hhead a).mp h0]
      rfl
    · have hnone : head = none := Option.eq_none_iff_forall_ne_some.mpr fun b hb => h0 b ((hhead b).mpr hb)
      rw [hnone, hrest.first a hlater]
      rfl
  case passes =>
    intro hnothing
    have hnone : head = none :=
      Option.eq_none_iff_forall_ne_some.mpr fun b hb => hnothing ⟨0, b, (hhead b).mpr hb⟩
    rw [hnone, hrest.passes fun ⟨i, a, h⟩ => hnothing ⟨i + 1, a, h⟩]
    rfl

theorem Scans.eq_some_iff {refusal : Option Reply} (h : Scans refusal gives) : FirstAt gives a ↔ refusal = some a := by
  refine ⟨h.first a, fun ha => ?_⟩
  by_cases hany : ∃ i b, gives i b
  · obtain ⟨i, b, hb⟩ := hany
    obtain ⟨b, hfirst⟩ := exists_firstAt hb
    have := (h.first b hfirst).symm.trans ha
    exact Option.some.inj this ▸ hfirst
  · exact absurd ((h.passes hany).symm.trans ha) nofun

theorem Scans.congr {gives' : Nat → Reply → Prop} {refusal : Option Reply} (h : Scans refusal gives)
    (hsame : ∀ i a, gives i a ↔ gives' i a) : Scans refusal gives' := by
  have : gives = gives' := funext fun i => funext fun a => propext (hsame i a)
  exact this ▸ h

end Scan

/-- The refusal of a check that yields something when it passes. -/
def refusalOf {α : Type} : Except Reply α → Option Reply
  | .error r => some r
  | .ok _ => none

section RefusalOf

variable {α : Type} {x : Except Reply α}

theorem refusalOf_eq_some_iff {r : Reply} : refusalOf x = some r ↔ x = .error r := by
  cases x <;> simp [refusalOf]

theorem exists_ok_of_refusalOf (h : refusalOf x = none) : ∃ y, x = .ok y := by
  cases x with
  | error r => cases h
  | ok y => exact ⟨y, rfl⟩

end RefusalOf

/-! ### Check 2: the order of the runs (R31) -/

/-- R31: what the first run of the rest gives, after the end of the run before it. -/
def misplaced (wallLength : Int) (i : Nat) (previousEnd : Option Int) (run : Int × Int) : Option Reply :=
  if run.1 < 0 ∨ wallLength < run.2 ∨ run.2 ≤ run.1 then some (Reply.refusedWith .outOfRange (u8 i))
  else if previousEnd.any fun e => run.1 < e then some (Reply.refusedWith .runsOverlap (u8 i))
  else none

theorem checkRunOrder_cons (wallLength : Int) (i : Nat) (previousEnd : Option Int) (run : Int × Int)
    (rest : List (Int × Int)) :
    checkRunOrder wallLength i previousEnd (run :: rest) =
      (misplaced wallLength i previousEnd run).or (checkRunOrder wallLength (i + 1) (some run.2) rest) := by
  rw [checkRunOrder, misplaced]
  split_ifs <;> rfl

theorem misplacedRun_iff {r : Wall} {before rest : List (Int × Int)} {run : Int × Int} {a : Reply} :
    misplacedRun r (before ++ run :: rest) before.length a ↔
      misplaced r.length before.length (before.getLast?.map Prod.snd) run = some a := by
  have hrun : (before ++ run :: rest)[before.length]? = some run := by simp
  have hprevious : (∃ b, 0 < before.length ∧ (before ++ run :: rest)[before.length - 1]? = some b ∧ run.1 < b.2) ↔
      (before.getLast?.map Prod.snd).any (fun e => decide (run.1 < e)) = true := by
    rw [List.getLast?_eq_getElem?]
    rcases Nat.eq_zero_or_pos before.length with h0 | hpos
    · simp [List.length_eq_zero_iff.mp h0]
    · rw [List.getElem?_append_left (by omega)]
      cases before[before.length - 1]? <;> simp [hpos]
  unfold misplacedRun misplaced
  simp only [hrun, Option.some.injEq, exists_eq_left', hprevious]
  by_cases hout : run.1 < 0 ∨ r.length < run.2 ∨ run.2 ≤ run.1
  · rw [if_pos hout, Option.some.injEq]
    exact ⟨fun h => h.elim (fun h => h.2.symm) fun h => absurd hout h.1, fun h => .inl ⟨hout, h.symm⟩⟩
  · rw [if_neg hout]
    by_cases hover : (before.getLast?.map Prod.snd).any (fun e => decide (run.1 < e)) = true
    · rw [if_pos hover, Option.some.injEq]
      exact ⟨fun h => h.elim (fun h => absurd h.1 hout) fun h => h.2.2.symm, fun h => .inr ⟨hout, hover, h.symm⟩⟩
    · rw [if_neg hover]
      exact ⟨fun h => h.elim (fun h => absurd h.1 hout) fun h => absurd h.2.1 hover, nofun⟩

theorem checkRunOrder_scans (r : Wall) (before rest : List (Int × Int)) :
    Scans (checkRunOrder r.length before.length (before.getLast?.map Prod.snd) rest)
      fun i => misplacedRun r (before ++ rest) (before.length + i) := by
  induction rest generalizing before with
  | nil =>
    refine .nil fun i a h => ?_
    obtain ⟨run, hrun, -⟩ := h
    simp at hrun
  | cons run rest ih =>
    have hnext := ih (before ++ [run])
    rw [List.length_append, List.length_singleton, List.getLast?_concat, List.append_assoc] at hnext
    rw [checkRunOrder_cons]
    refine .cons (fun a => misplacedRun_iff) (hnext.congr fun i a => ?_)
    rw [Nat.add_assoc, Nat.add_comm 1]
    rfl

/-! ### Check 3: the openings (R32) -/

theorem crosses_iff (run : Int × Int) (base top : Int) (f : Feature) :
    crosses run.1 run.2 base top f = true ↔ runCrosses run base top f := by
  simp [crosses, runCrosses, and_assoc]

/-- R32: what a run gives that crosses a feature of the chain. -/
def crossing (chain : List (Nat × Feature)) (base top : Int) (i : Nat) (run : Int × Int) : Option Reply :=
  (chain.find? fun e => crosses run.1 run.2 base top e.2).map fun e => Reply.refusedWith .crossesOpening (u8 i ++ u8 e.1)

theorem checkOpenings_cons (chain : List (Nat × Feature)) (base top : Int) (i : Nat) (run : Int × Int)
    (rest : List (Int × Int)) :
    checkOpenings chain base top i (run :: rest) =
      (crossing chain base top i run).or (checkOpenings chain base top (i + 1) rest) := by
  rw [checkOpenings, crossing]
  cases chain.find? fun e => crosses run.1 run.2 base top e.2 <;> rfl

theorem crossingRun_iff {chain : List (Nat × Feature)} {base top : Int} {before rest : List (Int × Int)} {run : Int × Int}
    {a : Reply} : crossingRun chain base top (before ++ run :: rest) before.length a ↔
      crossing chain base top before.length run = some a := by
  have hrun : (before ++ run :: rest)[before.length]? = some run := by simp
  simp only [crossingRun, crossing, hrun, Option.map_eq_some_iff, List.find?_eq_some_iff_append, crosses_iff,
    Bool.not_eq_true', ← Bool.not_eq_true, Option.some.injEq]
  constructor
  · rintro ⟨_, first, e, after, rfl, hchain, hfirst, hcross, rfl⟩
    exact ⟨e, ⟨hcross, first, after, hchain, hfirst⟩, rfl⟩
  · rintro ⟨e, ⟨hcross, first, after, hchain, hfirst⟩, rfl⟩
    exact ⟨_, first, e, after, rfl, hchain, hfirst, hcross, rfl⟩

theorem checkOpenings_scans (chain : List (Nat × Feature)) (base top : Int) (before rest : List (Int × Int)) :
    Scans (checkOpenings chain base top before.length rest)
      fun i => crossingRun chain base top (before ++ rest) (before.length + i) := by
  induction rest generalizing before with
  | nil =>
    refine .nil fun i a h => ?_
    obtain ⟨run, _, _, _, hrun, -⟩ := h
    simp at hrun
  | cons run rest ih =>
    have hnext := ih (before ++ [run])
    rw [List.length_append, List.length_singleton, List.append_assoc] at hnext
    rw [checkOpenings_cons]
    refine .cons (fun a => crossingRun_iff) (hnext.congr fun i a => ?_)
    rw [Nat.add_assoc, Nat.add_comm 1]
    rfl

/-! ### Check 4: the run solve (R33) -/

section Solve

variable {k : Kind} {p : Profile} {q : Int} {saw : Bool}

theorem refusalOf_solveRuns_cons (i : Nat) (run : Int × Int) (rest : List (Int × Int)) :
    refusalOf (solveRuns k p q saw i (run :: rest)) =
      (refusalOf (solveRun k p q saw i run.1 run.2)).or (refusalOf (solveRuns k p q saw (i + 1) rest)) := by
  rw [solveRuns]
  cases solveRun k p q saw i run.1 run.2 with
  | error r => rfl
  | ok plan => cases solveRuns k p q saw (i + 1) rest <;> rfl

theorem solveRuns_scans (before rest : List (Int × Int)) :
    Scans (refusalOf (solveRuns k p q saw before.length rest))
      fun i => unsolvedRun k p q saw (before ++ rest) (before.length + i) := by
  induction rest generalizing before with
  | nil =>
    refine .nil fun i a h => ?_
    obtain ⟨run, hrun, -⟩ := h
    simp at hrun
  | cons run rest ih =>
    have hnext := ih (before ++ [run])
    rw [List.length_append, List.length_singleton, List.append_assoc] at hnext
    rw [refusalOf_solveRuns_cons]
    refine .cons (fun a => ?_) (hnext.congr fun i a => ?_)
    · have hrun : (before ++ run :: rest)[before.length]? = some run := by simp
      simp only [unsolvedRun, Nat.add_zero, hrun, Option.some.injEq, exists_eq_left', refusalOf_eq_some_iff]
    · rw [Nat.add_assoc, Nat.add_comm 1]
      rfl

/-- R33: runs that are all solved give their plans in order. -/
theorem solveRuns_of_solved {i : Nat} {runs : List (Int × Int)} {plans : List RunPlan} (hlength : plans.length = runs.length)
    (hsolved : ∀ (j : Nat) (run : Int × Int) (plan : RunPlan), runs[j]? = some run → plans[j]? = some plan →
      solveRun k p q saw (i + j) run.1 run.2 = .ok plan) : solveRuns k p q saw i runs = .ok plans := by
  induction runs generalizing i plans with
  | nil => rw [List.length_eq_zero_iff.mp hlength]; rfl
  | cons run runs ih =>
    cases plans with
    | nil => cases hlength
    | cons plan plans =>
      have hrest := ih (i := i + 1) (Nat.succ.inj hlength) fun j run' plan' hr hp => by
        rw [Nat.add_assoc, Nat.add_comm 1]
        exact hsolved (j + 1) run' plan' hr hp
      have hfirst : solveRun k p q saw i run.1 run.2 = .ok plan := hsolved 0 run plan rfl rfl
      rw [solveRuns, hfirst]
      simp only [hrest]

end Solve

/-! ### Check 6: the supports (R42, R43) -/

section Supports

variable {bed : Bed} {order : Nat}

theorem refusalOf_supportSlots_cons (p : SlotPlan) (rest : List SlotPlan) :
    refusalOf (supportSlots bed order (p :: rest)) =
      (refusalOf (supportSlot bed order p)).or (refusalOf (supportSlots bed order rest)) := by
  rw [supportSlots]
  cases supportSlot bed order p with
  | error r => rfl
  | ok q => cases supportSlots bed order rest <;> rfl

theorem supportSlots_scans (ps : List SlotPlan) :
    Scans (refusalOf (supportSlots bed order ps))
      fun j a => ∃ slot, ps[j]? = some slot ∧ supportSlot bed order slot = .error a := by
  induction ps with
  | nil => exact .nil fun _ _ ⟨_, h, _⟩ => nomatch h
  | cons p ps ih =>
    rw [refusalOf_supportSlots_cons]
    exact .cons (fun a => by simp [refusalOf_eq_some_iff]) ih

theorem refusalOf_supportRuns_cons (p : RunPlan) (rest : List RunPlan) :
    refusalOf (supportRuns bed (p :: rest)) =
      (refusalOf (supportSlots bed p.order p.slots)).or (refusalOf (supportRuns bed rest)) := by
  rw [supportRuns]
  cases supportSlots bed p.order p.slots with
  | error r => rfl
  | ok q => cases supportRuns bed rest <;> rfl

theorem supportRuns_scans (plans : List RunPlan) : Scans (refusalOf (supportRuns bed plans)) (unsupportedRun bed plans) := by
  induction plans with
  | nil => exact .nil fun _ _ ⟨_, h, _⟩ => nomatch h
  | cons p ps ih =>
    rw [refusalOf_supportRuns_cons]
    refine .cons (fun a => ?_) ih
    simp only [unsupportedRun, List.getElem?_cons_zero, Option.some.injEq, exists_eq_left']
    exact (supportSlots_scans p.slots).eq_some_iff

/-- Places of two lists that agree place by place. -/
theorem exists_getElem?_of_forall₂ {α β : Type} {R : α → β → Prop} {l : List α} {l' : List β} (h : List.Forall₂ R l l')
    {i : Nat} {a : α} (ha : l[i]? = some a) : ∃ b, l'[i]? = some b ∧ R a b := by
  induction h generalizing i with
  | nil => cases ha
  | cons hab _ ih =>
    cases i with
    | zero =>
      cases ha
      exact ⟨_, rfl, hab⟩
    | succ i => exact ih ha

theorem supportSlots_ok {ps qs : List SlotPlan} (h : supportSlots bed order ps = .ok qs) :
    List.Forall₂ (fun p q => supportSlot bed order p = .ok q) ps qs := by
  induction ps generalizing qs with
  | nil =>
    cases h
    exact .nil
  | cons p ps ih =>
    unfold supportSlots at h
    split at h
    · cases h
    next hq =>
      split at h
      · cases h
      next hrest =>
        cases h
        exact .cons hq (ih hrest)

/-- R42, R43: a run with its slots supported. -/
structure Borne (bed : Bed) (plan borne : RunPlan) : Prop where
  frame : borne = { plan with slots := borne.slots }
  slots : List.Forall₂ (fun p q => supportSlot bed plan.order p = .ok q) plan.slots borne.slots

theorem supportRuns_ok {plans supported : List RunPlan} (h : supportRuns bed plans = .ok supported) :
    List.Forall₂ (Borne bed) plans supported := by
  induction plans generalizing supported with
  | nil =>
    cases h
    exact .nil
  | cons p ps ih =>
    unfold supportRuns at h
    split at h
    · cases h
    next hslots =>
      split at h
      · cases h
      next hrest =>
        cases h
        exact .cons ⟨rfl, supportSlots_ok hslots⟩ (ih hrest)

theorem supportSlot_span {p q : SlotPlan} (h : supportSlot bed order p = .ok q) : q.left = p.left ∧ q.length = p.length := by
  unfold supportSlot at h
  dsimp only at h
  split at h
  · cases h
  · split at h
    · cases h; exact ⟨rfl, rfl⟩
    · split at h
      · cases h; exact ⟨rfl, rfl⟩
      · cases h

end Supports

/-! ### Check 7: the lap (R45) -/

section Lap

theorem getElem?_centres {l : List (Int × Int)} {j : Nat} {c : Int} :
    (centres l)[j]? = some c ↔ ∃ a b, l[j]? = some a ∧ l[j + 1]? = some b ∧ c = centre a.2 b.1 := by
  induction l generalizing j with
  | nil => simp [centres]
  | cons a l ih =>
    cases l with
    | nil => simp [centres]
    | cons b l =>
      rw [centres]
      cases j with
      | zero => simp [eq_comm]
      | succ j => simpa using ih

theorem State.mem_centresOf {s : State} {below : Course} {x : Int} : x ∈ s.centresOf below ↔ s.jointBelow below x := by
  rw [State.centresOf, List.mem_flatMap]
  constructor
  · rintro ⟨id, hid, hx⟩
    obtain ⟨m, hm⟩ := List.mem_iff_getElem?.mp hx
    obtain ⟨_, _, ha, hb, rfl⟩ := getElem?_centres.mp hm
    rw [List.getElem?_map, Option.map_eq_some_iff] at ha hb
    obtain ⟨a, ha, rfl⟩ := ha
    obtain ⟨b, hb, rfl⟩ := hb
    cases hr : s.run id with
    | none =>
      rw [hr] at ha
      cases ha
    | some run =>
      rw [hr] at ha hb
      exact ⟨id, hid, run, m, a, b, hr, ha, hb, rfl⟩
  · rintro ⟨id, hid, run, m, a, b, hr, ha, hb, rfl⟩
    refine ⟨id, hid, List.mem_iff_getElem?.mpr ⟨m, getElem?_centres.mpr ?_⟩⟩
    rw [hr, Option.getD_some, List.getElem?_map, List.getElem?_map, ha, hb]
    exact ⟨_, _, rfl, rfl, rfl⟩

/-- What the first joint of a run gives that stands too near a joint below, named by the slot on its right. -/
theorem shortLap_scans (minimumLap : Int) (below : List Int) (order index : Nat) (cs : List Int) :
    Scans ((shortLap minimumLap below index cs).map fun i => Reply.refusedWith .lapShort (u8 order ++ u8 i))
      fun j a => ∃ c, cs[j]? = some c ∧ (∃ x ∈ below, magnitude (c - x) < minimumLap) ∧
        a = Reply.refusedWith .lapShort (u8 order ++ u8 (index + j)) := by
  induction cs generalizing index with
  | nil => exact .nil fun _ _ ⟨_, h, _⟩ => nomatch h
  | cons c cs ih =>
    have hcons : (shortLap minimumLap below index (c :: cs)).map
          (fun i => Reply.refusedWith .lapShort (u8 order ++ u8 i)) =
        (if below.any fun b => magnitude (c - b) < minimumLap then
          some (Reply.refusedWith .lapShort (u8 order ++ u8 index)) else none).or
        ((shortLap minimumLap below (index + 1) cs).map fun i => Reply.refusedWith .lapShort (u8 order ++ u8 i)) := by
      rw [shortLap]
      split_ifs <;> rfl
    have hnear : (below.any fun b => magnitude (c - b) < minimumLap) = true ↔
        ∃ x ∈ below, magnitude (c - x) < minimumLap := by simp
    rw [hcons]
    refine .cons (fun a => ?_) ((ih (index + 1)).congr fun j a => ?_)
    · simp only [List.getElem?_cons_zero, Option.some.injEq, exists_eq_left', Nat.add_zero, ← hnear]
      split_ifs with h
      · simp [h, eq_comm]
      · simp [h]
    · simp only [List.getElem?_cons_succ, Nat.add_assoc, Nat.add_comm 1]

/-- What a run gives whose joint stands too near one below. -/
def lapRefusal (minimumLap : Int) (below : List Int) (p : RunPlan) : Option Reply :=
  (shortLap minimumLap below 1 (centres (p.slots.map fun q => (q.left, q.left + q.length)))).map
    fun i => Reply.refusedWith .lapShort (u8 p.order ++ u8 i)

theorem checkLap_cons (minimumLap : Int) (below : List Int) (p : RunPlan) (rest : List RunPlan) :
    checkLap minimumLap below (p :: rest) = (lapRefusal minimumLap below p).or (checkLap minimumLap below rest) := by
  rw [checkLap, lapRefusal]
  cases shortLap minimumLap below 1 (centres (p.slots.map fun q => (q.left, q.left + q.length))) <;> rfl

theorem lapRefusal_iff {s : State} {below : Course} {p : RunPlan} {a : Reply} :
    FirstAt (fun j a =>
      ∃ left right x, p.slots[j]? = some left ∧ p.slots[j + 1]? = some right ∧ s.jointBelow below x ∧
        magnitude ((left.left + left.length + right.left) / 2 - x) < s.params.minimumLap ∧
        a = Reply.refusedWith .lapShort (u8 p.order ++ u8 (j + 1))) a ↔
      lapRefusal s.params.minimumLap (s.centresOf below) p = some a := by
  refine ((shortLap_scans s.params.minimumLap (s.centresOf below) p.order 1 _).congr fun j a => ?_).eq_some_iff
  simp only [getElem?_centres, List.getElem?_map, Option.map_eq_some_iff, State.mem_centresOf, Nat.add_comm 1 j]
  constructor
  · rintro ⟨_, ⟨_, _, ⟨left, hl, rfl⟩, ⟨right, hr, rfl⟩, rfl⟩, ⟨x, hx, hnear⟩, rfl⟩
    exact ⟨left, right, x, hl, hr, hx, hnear, rfl⟩
  · rintro ⟨left, right, x, hl, hr, hx, hnear, rfl⟩
    exact ⟨_, ⟨_, _, ⟨left, hl, rfl⟩, ⟨right, hr, rfl⟩, rfl⟩, ⟨x, hx, hnear⟩, rfl⟩

theorem checkLap_scans (s : State) (below : Course) (plans : List RunPlan) :
    Scans (checkLap s.params.minimumLap (s.centresOf below) plans) (shortLapRun s below plans) := by
  induction plans with
  | nil => exact .nil fun _ _ ⟨_, h, _⟩ => nomatch h
  | cons p ps ih =>
    rw [checkLap_cons]
    refine .cons (fun a => ?_) ih
    simp only [shortLapRun, List.getElem?_cons_zero, Option.some.injEq, exists_eq_left']
    exact lapRefusal_iff

theorem map_span_of_supported {bed : Bed} {order : Nat} {ps qs : List SlotPlan}
    (h : List.Forall₂ (fun p q => supportSlot bed order p = .ok q) ps qs) :
    qs.map (fun x => (x.left, x.left + x.length)) = ps.map fun x => (x.left, x.left + x.length) := by
  induction h with
  | nil => rfl
  | cons hpq _ ih =>
    obtain ⟨hleft, hlength⟩ := supportSlot_span hpq
    rw [List.map_cons, List.map_cons, ih, hleft, hlength]

/-- The lap of supported runs is that of the runs. -/
theorem checkLap_supported {bed : Bed} {minimumLap : Int} {below : List Int} {plans supported : List RunPlan}
    (h : List.Forall₂ (Borne bed) plans supported) :
    checkLap minimumLap below supported = checkLap minimumLap below plans := by
  induction h with
  | nil => rfl
  | @cons p q ps qs hpq _ ih =>
    have hspans := map_span_of_supported hpq.slots
    have horder : q.order = p.order := by rw [hpq.frame]
    rw [checkLap_cons, checkLap_cons, ih, lapRefusal, lapRefusal, hspans, horder]

end Lap

/-! ### The checks in their order (R30) -/

theorem State.courseBelow_eq_none {s : State} {c : Course}
    (h : c.number = 0 ∨ s.liveCourse c.wall (c.number - 1) = none) : s.courseBelow c = none := by
  rw [State.courseBelow]
  split_ifs with h0
  · rfl
  · rw [h.resolve_left h0]
    rfl

theorem State.courseBelow_eq_some {s : State} {c below : Course} {e : Nat} (h0 : c.number ≠ 0)
    (h : s.liveCourse c.wall (c.number - 1) = some (e, below)) : s.courseBelow c = some below := by
  rw [State.courseBelow, if_neg h0, h]
  rfl

/-- R42 to R45: the two checks over a live course below. -/
theorem bedChecks_firstOf {s : State} {r : Wall} {c below : Course} {plans : List RunPlan}
    (hbelow : s.courseBelow c = some below) :
    FirstOf
      [(∃ i a, unsupportedRun (s.bedOn r below) plans i a,
          ∀ a, FirstAt (unsupportedRun (s.bedOn r below) plans) a → bedChecks s r c plans = .error a),
        (∃ i a, shortLapRun s below plans i a,
          ∀ a, FirstAt (shortLapRun s below plans) a → bedChecks s r c plans = .error a),
        (True, ∃ supported, bedChecks s r c plans = .ok supported ∧ supported.length = plans.length ∧
          ∀ (i : Nat) (plan borne : RunPlan), plans[i]? = some plan → supported[i]? = some borne →
            borne = { plan with slots := borne.slots } ∧ borne.slots.length = plan.slots.length ∧
            ∀ (j : Nat) (slot : SlotPlan), plan.slots[j]? = some slot →
              ∃ held, borne.slots[j]? = some held ∧ supportSlot (s.bedOn r below) plan.order slot = .ok held)] := by
  have hsupports := supportRuns_scans (bed := s.bedOn r below) plans
  have hlap := checkLap_scans s below plans
  refine ⟨fun _ a ha => ?_, fun hnone => ?_⟩
  · rw [bedChecks, hbelow]
    simp only [refusalOf_eq_some_iff.mp (hsupports.first a ha)]
  · obtain ⟨supported, hok⟩ := exists_ok_of_refusalOf (hsupports.passes hnone)
    have hborne := supportRuns_ok hok
    refine ⟨fun _ a ha => ?_, fun hnone => ⟨fun _ => ⟨supported, ?_, hborne.length_eq.symm, ?_⟩, fun _ => trivial⟩⟩
    · rw [bedChecks, hbelow]
      simp only [hok, checkLap_supported hborne, hlap.first a ha]
    · rw [bedChecks, hbelow]
      simp only [hok, checkLap_supported hborne, hlap.passes hnone]
    · intro i plan borne hplan hb
      obtain ⟨_, hb', hframe, hslots⟩ := exists_getElem?_of_forall₂ hborne hplan
      obtain rfl := Option.some.inj (hb'.symm.trans hb)
      exact ⟨hframe, hslots.length_eq.symm, fun j slot hslot => exists_getElem?_of_forall₂ hslots hslot⟩

section Checks

variable {s : State} {r : Wall} {c : Course} {runs : List (Int × Int)} {plans : List RunPlan} {a : Reply}

theorem commitChecks_of_solved (h1 : checkRunEntries s runs = none) (h2 : checkRunOrder r.length 0 none runs = none)
    (h3 : checkOpenings (s.chain r) c.baseZ (s.topOf c) 0 runs = none)
    (h4 : solveRuns (s.kind c.kind) (s.profile c.profile) s.params.sawStep s.sawFitted 0 runs = .ok plans) :
    commitChecks s r c runs =
      if slotCapacity - s.slots.length < totalSlots plans then .error (Reply.refusedWith .noSpace
        (u16 (totalSlots plans) ++ u16 (slotCapacity - s.slots.length) ++ u8 2))
      else bedChecks s r c plans := by
  simp only [commitChecks, h1, h2, h3, h4]
  by_cases hfull : slotCapacity - s.slots.length < totalSlots plans
  · have h5 : checkSlotEntries s plans = some _ := if_pos hfull
    rw [if_pos hfull, h5]
  · have h5 : checkSlotEntries s plans = none := if_neg hfull
    rw [if_neg hfull, h5]

/-- R30: the seven checks, the first that fails answering. -/
theorem commitChecks_firstOf (s : State) (r : Wall) (c : Course) (runs : List (Int × Int)) (k : Kind) (p : Profile)
    (hk : k = s.kind c.kind) (hp : p = s.profile c.profile) :
    FirstOf
      [(128 - s.runs.length < runs.length,
          commitChecks s r c runs =
            .error (Reply.refusedWith .noSpace (u16 runs.length ++ u16 (128 - s.runs.length) ++ u8 1))),
        (∃ i a, misplacedRun r runs i a,
          ∀ a, FirstAt (misplacedRun r runs) a → commitChecks s r c runs = .error a),
        (∃ i a, crossingRun (s.chain r) c.baseZ (c.baseZ + k.height) runs i a,
          ∀ a, FirstAt (crossingRun (s.chain r) c.baseZ (c.baseZ + k.height) runs) a →
            commitChecks s r c runs = .error a),
        (∃ i a, unsolvedRun k p s.params.sawStep s.sawFitted runs i a,
          ∀ a, FirstAt (unsolvedRun k p s.params.sawStep s.sawFitted runs) a → commitChecks s r c runs = .error a),
        (True, ∀ plans : List RunPlan, plans.length = runs.length →
          (∀ (i : Nat) (run : Int × Int) (plan : RunPlan), runs[i]? = some run → plans[i]? = some plan →
            solveRun k p s.params.sawStep s.sawFitted i run.1 run.2 = .ok plan) →
          commitChecks s r c runs =
            if slotCapacity - s.slots.length < totalSlots plans then .error (Reply.refusedWith .noSpace
              (u16 (totalSlots plans) ++ u16 (slotCapacity - s.slots.length) ++ u8 2))
            else bedChecks s r c plans)] := by
  subst hk hp
  have horder : Scans (checkRunOrder r.length 0 none runs) (misplacedRun r runs) :=
    (checkRunOrder_scans r [] runs).congr fun i a => by rw [List.length_nil, Nat.zero_add]; rfl
  have hopenings : Scans (checkOpenings (s.chain r) c.baseZ (s.topOf c) 0 runs)
      (crossingRun (s.chain r) c.baseZ (c.baseZ + (s.kind c.kind).height) runs) :=
    (checkOpenings_scans (s.chain r) c.baseZ _ [] runs).congr fun i a => by rw [List.length_nil, Nat.zero_add]; rfl
  have hsolve : Scans (refusalOf (solveRuns (s.kind c.kind) (s.profile c.profile) s.params.sawStep s.sawFitted 0 runs))
      (unsolvedRun (s.kind c.kind) (s.profile c.profile) s.params.sawStep s.sawFitted runs) :=
    (solveRuns_scans [] runs).congr fun i a => by rw [List.length_nil, Nat.zero_add]; rfl
  refine ⟨fun h => ?_, fun h => ?_⟩
  · have h1 : checkRunEntries s runs = some _ := if_pos h
    rw [commitChecks, h1]
    rfl
  have h1 : checkRunEntries s runs = none := if_neg h
  refine ⟨fun _ a ha => by rw [commitChecks, h1, horder.first a ha], fun h => ?_⟩
  have h2 := horder.passes h
  refine ⟨fun _ a ha => by rw [commitChecks, h1, h2, hopenings.first a ha], fun h => ?_⟩
  have h3 := hopenings.passes h
  refine ⟨fun _ a ha => ?_, fun _ => ⟨fun _ plans hlength hsolved => ?_, fun _ => trivial⟩⟩
  · rw [commitChecks, h1, h2, h3, refusalOf_eq_some_iff.mp (hsolve.first a ha)]
  · refine commitChecks_of_solved h1 h2 h3 (solveRuns_of_solved hlength fun j run plan hr hp => ?_)
    rw [Nat.zero_add]
    exact hsolved j run plan hr hp

end Checks

/-- Settles O25, by the checks in their order and the body of RUN ENTRY. -/
theorem refusedCommitLeavesNoTrace : Obligations.RefusedCommitLeavesNoTrace := by
  refine ⟨fun tag start stop l c r refusal s hs hload hlast hc hr hrefusal =>
    ⟨commitChecks_refused hrefusal, lastRunEntry_refused hs hload hlast hc hr hrefusal⟩,
    fun s r c runs k p hk hp => ?_⟩
  refine FirstOf.imp_cons id (FirstOf.imp_cons id (FirstOf.imp_cons id (FirstOf.imp_cons id
    (FirstOf.imp_cons (fun hsolved plans hlength hall => ?_) id)))) (commitChecks_firstOf s r c runs k p hk hp)
  have hchecks := hsolved plans hlength hall
  refine ⟨fun hfull => hchecks.trans (if_pos hfull), fun hroom => ?_⟩
  replace hchecks := hchecks.trans (if_neg hroom)
  rw [hchecks]
  refine ⟨fun hnone => by rw [bedChecks, State.courseBelow_eq_none hnone], fun hsome => ⟨fun _ e below hbelow =>
    bedChecks_firstOf (State.courseBelow_eq_some (fun h0 => hsome (.inl h0)) hbelow), fun _ => trivial⟩⟩

end Sys2Proof.Machine
end

section
/-! The run solve: its cases, its limits and the run that it plans (02 R34 to R38). -/

namespace Sys2Proof.Machine

/-! ### The slots of a run, place by place (R37, R38) -/

section Plan

variable {k : Kind} {closer : Option Int} {b e : Int}

/-- R38: the slot at a place of a run of m slots whose first place has index i and left face x. -/
def plannedAt (k : Kind) (closer : Option Int) (b e : Int) (i m : Nat) (x : Int) (j : Nat) : SlotPlan :=
  { index := i + j
    left := x + j * (k.length + b) + (min ((i : Int) + j) e - min (i : Int) e)
    length := if j + 1 = m then closer.getD k.length else k.length
    joint := if i + j = 0 then none else some (jointAt b e (i + j))
    closer := j + 1 = m && closer.isSome
    supports := [], lintelSupported := false }

/-- R37: the joints are b, and b + 1 for the first e of them. -/
theorem jointAt_eq (i : Nat) : jointAt b e (i + 1) = b + (min ((i : Int) + 1) e - min (i : Int) e) := by
  unfold jointAt
  split_ifs <;> omega

theorem planSlots_getElem? (i m : Nat) (x : Int) (j : Nat) :
    (planSlots k closer b e i m x)[j]? = if j < m then some (plannedAt k closer b e i m x j) else none := by
  induction m generalizing i x j with
  | zero => rfl
  | succ m ih =>
    rw [planSlots]
    cases j with
    | zero =>
      rw [List.getElem?_cons_zero, if_pos m.succ_pos]
      simp [plannedAt]
    | succ j =>
      rw [List.getElem?_cons_succ, ih]
      by_cases hj : j < m
      · have hm : m ≠ 0 := by omega
        rw [if_pos hj, if_neg hm, if_pos (Nat.succ_lt_succ hj), jointAt_eq]
        have hplace : i + 1 + j = i + (j + 1) := by omega
        have hleft : x + k.length + (b + (min ((i : Int) + 1) e - min (i : Int) e)) + (j : Int) * (k.length + b) +
            (min (((i + 1 : Nat) : Int) + j) e - min ((i + 1 : Nat) : Int) e) =
            x + ((j + 1 : Nat) : Int) * (k.length + b) + (min ((i : Int) + ((j + 1 : Nat) : Int)) e - min (i : Int) e) := by
          push_cast
          rw [show (i : Int) + 1 + j = i + (j + 1) by omega]
          ring
        simp only [plannedAt, hplace, hleft, Nat.add_right_cancel_iff]
      · rw [if_neg hj, if_neg (by omega)]

theorem plannedAt_closer_iff {i m : Nat} {x : Int} {j : Nat} :
    (plannedAt k closer b e i m x j).closer = true ↔ j + 1 = m ∧ closer ≠ none := by
  rw [← Option.isSome_iff_ne_none, ← decide_eq_true_iff (p := j + 1 = m), ← Bool.and_eq_true]
  rfl

theorem plannedAt_length_of_not {i m : Nat} {x : Int} {j : Nat} (h : (plannedAt k closer b e i m x j).closer = false) :
    (plannedAt k closer b e i m x j).length = k.length := by
  rw [← Bool.not_eq_true, plannedAt_closer_iff] at h
  simp only [plannedAt]
  split_ifs with hlast
  · rw [not_ne_iff.mp fun hsome => h ⟨hlast, hsome⟩, Option.getD_none]
  · rfl

theorem plannedAt_joint {m : Nat} {x : Int} {j : Nat} (hj : 1 ≤ j) :
    (plannedAt k closer b e 0 m x j).joint = some (jointAt b e j) := by
  simp only [plannedAt, Nat.zero_add]
  exact if_neg (by omega)

end Plan

/-! ### The solve of one run -/

section Solve

variable {k : Kind} {p : Profile} {q : Int} {saw : Bool} {order : Nat} {start stop : Int}

/-- R37: the length left for the joints of a run of n slots. -/
def jointLength (k : Kind) (d n : Int) (closer : Option Int) : Int := d - (n - 1) * k.length - closer.getD k.length

/-- R37: the joint that every place has at least, and the tenths over, one for each of the first joints. -/
def evenJoint (k : Kind) (d n : Int) (closer : Option Int) : Int := jointLength k d n closer / (n - 1)

def tenthsOver (k : Kind) (d n : Int) (closer : Option Int) : Int :=
  jointLength k d n closer - evenJoint k d n closer * (n - 1)

/-- R38: the run that the solve plans for a case. -/
def solvedPlan (k : Kind) (order : Nat) (start stop n : Int) (closer : Option Int) : RunPlan :=
  { order := order, start := start, stop := stop, closerLength := closer
    slots := planSlots k closer (evenJoint k (stop - start) n closer) (tenthsOver k (stop - start) n closer) 0 n.toNat start }

/-- R37: a joint is outside the profile. -/
def unevenJoints (k : Kind) (p : Profile) (d n : Int) (closer : Option Int) : Prop :=
  n ≠ 1 ∧ (evenJoint k d n closer < p.jmin ∨
    p.jmax < if 0 < tenthsOver k d n closer then evenJoint k d n closer + 1 else evenJoint k d n closer)

theorem sub_bricksLength (d n : Int) (closer : Option Int) : d - bricksLength k n closer = jointLength k d n closer := by
  cases closer with
  | none =>
    simp only [bricksLength, jointLength, Option.getD_none]
    ring
  | some c =>
    simp only [bricksLength, jointLength, Option.getD_some]
    ring

/-- R36, R37: the solve once a case has given the slots and the closer. -/
theorem solveRun_of_case {n : Int} {closer : Option Int} (hcase : solveCase k p q (stop - start) = .ok (n, closer)) :
    FirstOf
      [(96 < n, solveRun k p q saw order start stop = .error (Reply.refusedWith .runTooLong (u8 order))),
        (closer ≠ none ∧ saw = false,
          solveRun k p q saw order start stop = .error (Reply.refusedWith .noSaw (u8 order))),
        (unevenJoints k p (stop - start) n closer,
          solveRun k p q saw order start stop = .error (Reply.refusedWith .runUnsolvable (u8 order))),
        (True, solveRun k p q saw order start stop = .ok (solvedPlan k order start stop n closer))] := by
  have hsome : (closer.isSome ∧ saw = false) ↔ (closer ≠ none ∧ saw = false) := by rw [Option.isSome_iff_ne_none]
  simp only [solveRun, hcase, sub_bricksLength, hsome]
  refine ⟨fun h => if_pos h, fun h96 => ⟨fun h => ?_, fun hsaw => ⟨fun h => ?_, fun hjoint =>
    ⟨fun _ => ?_, fun _ => trivial⟩⟩⟩⟩
  · exact (if_neg h96).trans (if_pos h)
  · exact (if_neg h96).trans ((if_neg hsaw).trans (if_pos h))
  · exact (if_neg h96).trans ((if_neg hsaw).trans (if_neg hjoint))

theorem solveRun_of_refused {reason : ReasonCode} (hcase : solveCase k p q (stop - start) = .error reason) :
    solveRun k p q saw order start stop = .error (Reply.refusedWith reason (u8 order)) := by
  simp only [solveRun, hcase]

/-- R38: the slots of the run that the solve plans. -/
theorem solvedPlan_slot {n : Int} {closer : Option Int} {i : Nat} {slot : SlotPlan}
    (h : (solvedPlan k order start stop n closer).slots[i]? = some slot) :
    (i : Int) < n ∧ slot = plannedAt k closer (evenJoint k (stop - start) n closer) (tenthsOver k (stop - start) n closer)
      0 n.toNat start i := by
  rw [solvedPlan, planSlots_getElem?] at h
  obtain ⟨hi, hslot⟩ := Option.ite_none_right_eq_some.mp h
  exact ⟨by omega, (Option.some.inj hslot).symm⟩

/-- R36 to R38: what a case that gives n slots comes to. -/
theorem solvedAs_of_case {n : Int} {closer : Option Int} (hcase : solveCase k p q (stop - start) = .ok (n, closer))
    (hn : 1 ≤ n) : SolvedAs k p q saw order start stop n closer := by
  refine FirstOf.imp_cons id (FirstOf.imp_cons id (FirstOf.imp_cons id (FirstOf.imp_cons (fun hok => ?_) id)))
    (solveRun_of_case (saw := saw) (order := order) hcase)
  refine ⟨_, hok, rfl, rfl, rfl, rfl, ?_, fun i slot hslot => ?_⟩
  · rw [solvedPlan, planSlots_length]
    omega
  · obtain ⟨hi, rfl⟩ := solvedPlan_slot hslot
    refine ⟨Nat.zero_add i, (plannedAt_closer_iff).trans ?_, fun hpos => plannedAt_joint hpos⟩
    exact ⟨fun ⟨hlast, hcloser⟩ => ⟨hcloser, by omega⟩, fun ⟨hcloser, hlast⟩ => ⟨by omega, hcloser⟩⟩

/-- R34 to R38: what a run that the solve takes has passed. -/
theorem solveRun_ok {plan : RunPlan} (h : solveRun k p q saw order start stop = .ok plan) :
    ∃ n closer, solveCase k p q (stop - start) = .ok (n, closer) ∧ n ≤ 96 ∧ (closer ≠ none → saw = true) ∧
      ¬ unevenJoints k p (stop - start) n closer ∧ plan = solvedPlan k order start stop n closer := by
  cases hcase : solveCase k p q (stop - start) with
  | error reason =>
    rw [solveRun_of_refused hcase] at h
    cases h
  | ok x =>
    obtain ⟨n, closer⟩ := x
    obtain ⟨h96, hrest⟩ := solveRun_of_case (saw := saw) (order := order) hcase
    have hn : ¬ 96 < n := fun hn => nomatch (h96 hn).symm.trans h
    obtain ⟨hnoSaw, hrest⟩ := hrest hn
    have hsaw : ¬ (closer ≠ none ∧ saw = false) := fun hsaw => nomatch (hnoSaw hsaw).symm.trans h
    obtain ⟨huneven, hrest⟩ := hrest hsaw
    have hjoints : ¬ unevenJoints k p (stop - start) n closer := fun hj => nomatch (huneven hj).symm.trans h
    obtain ⟨hok, -⟩ := hrest hjoints
    refine ⟨n, closer, rfl, by omega, fun hcloser => ?_, hjoints, Except.ok.inj (h.symm.trans (hok trivial))⟩
    exact (Bool.eq_false_or_eq_true saw).resolve_right fun hfalse => hsaw ⟨hcloser, hfalse⟩

/-! ### Which case applies (R34, R35) -/

/-- R34: the whole bricks that fit are none or more. -/
theorem wholeBricks_nonneg {d : Int} (hlen : 0 < k.length) (hjn : 0 ≤ p.jn) (hd : 0 < d) :
    0 ≤ (d + p.jn) / (k.length + p.jn) := Int.ediv_nonneg (by omega) (by omega)

/-- R34 to R38: the cases of the solve in order. -/
theorem solveRun_firstOf {d f r : Int} (hlen : 0 < k.length) (hjn : 0 ≤ p.jn) (hlt : start < stop) (hd : d = stop - start)
    (hf : f = (d + p.jn) / (k.length + p.jn)) (hr : r = d - f * k.length - (f - 1) * p.jn) :
    FirstOf
      [(f = 0 ∧ k.cmin ≤ d, SolvedAs k p q saw order start stop 1 (some (q * (d / q)))),
        (f = 0, solveRun k p q saw order start stop = .error (Reply.refusedWith .runTooShort (u8 order))),
        (r = 0, SolvedAs k p q saw order start stop f none),
        (p.jn + k.cmin ≤ r, SolvedAs k p q saw order start stop (f + 1) (some (q * ((r - p.jn) / q)))),
        (0 < r ∧ r < p.jn + k.cmin ∧ 2 ≤ f ∧ r ≤ (f - 1) * (p.jmax - p.jn),
          SolvedAs k p q saw order start stop f none),
        (p.jn + k.cmin - r ≤ f * (p.jn - p.jmin), SolvedAs k p q saw order start stop (f + 1) (some k.cmin)),
        (True, solveRun k p q saw order start stop = .error (Reply.refusedWith .runUnsolvable (u8 order)))] := by
  have hnonneg : 0 ≤ f := hf ▸ wholeBricks_nonneg hlen hjn (by omega)
  have hcase : solveCase k p q (stop - start) =
      if f = 0 then if k.cmin ≤ d then .ok (1, some (q * (d / q))) else .error .runTooShort
      else if r = 0 then .ok (f, none)
      else if p.jn + k.cmin ≤ r then .ok (f + 1, some (q * ((r - p.jn) / q)))
      else if 0 < r ∧ r < p.jn + k.cmin ∧ 2 ≤ f ∧ r ≤ (f - 1) * (p.jmax - p.jn) then .ok (f, none)
      else if p.jn + k.cmin - r ≤ f * (p.jn - p.jmin) then .ok (f + 1, some k.cmin)
      else .error .runUnsolvable := by
    rw [← hd, solveCase, hr, hf]
  refine ⟨fun h => solvedAs_of_case (hcase.trans ((if_pos h.1).trans (if_pos h.2))) (by omega), fun h1 => ⟨fun h =>
    solveRun_of_refused (hcase.trans ((if_pos h).trans (if_neg fun hd => h1 ⟨h, hd⟩))), fun h2 => ?_⟩⟩
  replace hcase := hcase.trans (if_neg h2)
  refine ⟨fun h => solvedAs_of_case (hcase.trans (if_pos h)) (by omega), fun h3 => ?_⟩
  replace hcase := hcase.trans (if_neg h3)
  refine ⟨fun h => solvedAs_of_case (hcase.trans (if_pos h)) (by omega), fun h4 => ?_⟩
  replace hcase := hcase.trans (if_neg h4)
  refine ⟨fun h => solvedAs_of_case (hcase.trans (if_pos h)) (by omega), fun h5 => ?_⟩
  replace hcase := hcase.trans (if_neg h5)
  exact ⟨fun h => solvedAs_of_case (hcase.trans (if_pos h)) (by omega), fun h6 =>
    ⟨fun _ => solveRun_of_refused (hcase.trans (if_neg h6)), fun _ => trivial⟩⟩

/-- R34, R35: the cuts are whole saw steps between Cmin and the cut ceiling. -/
theorem cut_le {x y : Int} (hq : 0 < q) (hle : x ≤ y) : q * (x / q) ≤ q * (y / q) :=
  Int.mul_le_mul_of_nonneg_left (Int.ediv_le_ediv hq hle) hq.le

theorem cut_self {c : Int} (hc : c % q = 0) : q * (c / q) = c := Int.mul_ediv_cancel_of_emod_eq_zero hc

/-- R34, R35: what a planned closer is. -/
structure PlannedCloser (k : Kind) (q d n c : Int) : Prop where
  steps : c % q = 0
  least : k.cmin ≤ c
  most : c ≤ q * (k.length / q)
  alone : n = 1 → 0 ≤ d - c ∧ d - c < q

theorem solveCase_ok {d n : Int} {closer : Option Int} (hq : 0 < q) (hlen : 0 < k.length) (hle : k.cmin ≤ k.length)
    (hsteps : k.cmin % q = 0) (hjn : 0 ≤ p.jn) (hd : 0 < d) (h : solveCase k p q d = .ok (n, closer)) :
    1 ≤ n ∧ ∀ c, closer = some c → PlannedCloser k q d n c := by
  have hnonneg : 0 ≤ (d + p.jn) / (k.length + p.jn) := wholeBricks_nonneg hlen hjn hd
  have hlt : d + p.jn < (k.length + p.jn) * ((d + p.jn) / (k.length + p.jn)) + (k.length + p.jn) :=
    Int.lt_mul_ediv_self_add (by omega)
  unfold solveCase at h
  dsimp only at h
  generalize (d + p.jn) / (k.length + p.jn) = f at *
  split at h
  next hf =>
    subst hf
    split at h
    next hcmin =>
      cases h
      refine ⟨le_refl 1, fun c hc => ?_⟩
      cases hc
      have hfit : d ≤ k.length := by linarith
      refine ⟨Int.mul_emod_right .., ?_, cut_le hq hfit, fun _ => ⟨?_, ?_⟩⟩
      · exact (cut_self hsteps).symm.le.trans (cut_le hq hcmin)
      · have := Int.mul_ediv_self_le (x := d) (k := q) hq.ne'
        omega
      · have := Int.lt_mul_ediv_self_add (x := d) hq
        omega
    · cases h
  next hf =>
    split at h
    · cases h
      exact ⟨by omega, nofun⟩
    split at h
    next hlong =>
      cases h
      refine ⟨by omega, fun c hc => ?_⟩
      cases hc
      refine ⟨Int.mul_emod_right .., ?_, cut_le hq ?_, fun hn => absurd hn (by omega)⟩
      · exact (cut_self hsteps).symm.le.trans (cut_le hq (by omega))
      · linarith
    split at h
    · cases h
      exact ⟨by omega, nofun⟩
    split at h
    · cases h
      refine ⟨by omega, fun c hc => ?_⟩
      cases hc
      exact ⟨hsteps, le_refl _, (cut_self hsteps).symm.le.trans (cut_le hq hle), fun hn => absurd hn (by omega)⟩
    · cases h

/-- R37: the joints of a solved run are within the profile. -/
theorem jointAt_mem {d n : Int} {closer : Option Int} {i : Nat} (hn : n ≠ 1) (hi : 1 ≤ i)
    (hjoints : ¬ unevenJoints k p d n closer) :
    p.jmin ≤ jointAt (evenJoint k d n closer) (tenthsOver k d n closer) i ∧
      jointAt (evenJoint k d n closer) (tenthsOver k d n closer) i ≤ p.jmax := by
  unfold unevenJoints at hjoints
  unfold jointAt
  split_ifs at hjoints ⊢ <;> omega

/-- R37, R38: with two bricks or more, the last one ends at the run's end. -/
theorem plannedAt_last {n : Int} {closer : Option Int} {i : Nat} (hn : 2 ≤ n) (hi : (i : Int) + 1 = n) :
    (plannedAt k closer (evenJoint k (stop - start) n closer) (tenthsOver k (stop - start) n closer) 0 n.toNat start i).left +
      (plannedAt k closer (evenJoint k (stop - start) n closer) (tenthsOver k (stop - start) n closer) 0 n.toNat start
        i).length = stop := by
  have hover0 : 0 ≤ tenthsOver k (stop - start) n closer := by
    have := Int.ediv_mul_le (jointLength k (stop - start) n closer) (b := n - 1) (by omega)
    unfold tenthsOver evenJoint
    omega
  have hover1 : tenthsOver k (stop - start) n closer < n - 1 := by
    have := Int.lt_ediv_add_one_mul_self (jointLength k (stop - start) n closer) (b := n - 1) (by omega)
    rw [Int.add_mul, Int.one_mul] at this
    unfold tenthsOver evenJoint
    omega
  have hall : evenJoint k (stop - start) n closer * (n - 1) + tenthsOver k (stop - start) n closer =
      jointLength k (stop - start) n closer := by
    unfold tenthsOver
    ring
  have hplace : (i : Int) = n - 1 := by omega
  simp only [plannedAt]
  rw [if_pos (by omega), hplace]
  unfold jointLength at hall
  generalize evenJoint k (stop - start) n closer = b at *
  generalize tenthsOver k (stop - start) n closer = e at *
  have hmin : min (((0 : Nat) : Int) + (n - 1)) e - min ((0 : Nat) : Int) e = e := by omega
  rw [hmin]
  linarith

/-- Settles O26, by the slots of the planned run place by place and the cases in their order. -/
theorem solvedRunCloses : Obligations.SolvedRunCloses := by
  refine ⟨?_, fun k p q saw order start stop d f r hlen hjn hlt hd hf hr => solveRun_firstOf hlen hjn hlt hd hf hr⟩
  intro k p q saw order start stop plan hq hlen hcmin hle hsteps hjn hlt hok
  obtain ⟨n, closer, hcase, h96, hsaw, hjoints, rfl⟩ := solveRun_ok hok
  obtain ⟨hn, hcloser⟩ := solveCase_ok hq hlen hle hsteps hjn (by omega) hcase
  have hcount : ((solvedPlan k order start stop n closer).slots.length : Int) = n := by
    rw [solvedPlan, planSlots_length]
    omega
  refine ⟨by omega, by omega, fun b hb => ?_, fun i a b ha hb => ?_, fun b hb h2 => ?_, fun b hb hnot => ?_,
    fun b hb hclose => ?_⟩
  · rw [List.head?_eq_getElem?] at hb
    obtain ⟨-, rfl⟩ := solvedPlan_slot hb
    simp [plannedAt]
  · obtain ⟨hi, rfl⟩ := solvedPlan_slot ha
    obtain ⟨hi1, rfl⟩ := solvedPlan_slot hb
    push_cast at hi1
    refine ⟨Bool.eq_false_iff.mpr fun h => ?_, _, plannedAt_joint (by omega), ?_⟩
    · have := (plannedAt_closer_iff.mp h).1
      omega
    · obtain ⟨hmin, hmax⟩ := jointAt_mem (i := i + 1) (by omega) (by omega) hjoints
      refine ⟨hmin, hmax, ?_⟩
      simp only [plannedAt]
      rw [if_neg (by omega), jointAt_eq]
      push_cast
      ring_nf
  · rw [List.getLast?_eq_getElem?] at hb
    obtain ⟨hi, rfl⟩ := solvedPlan_slot hb
    exact plannedAt_last (by omega) (by omega)
  · obtain ⟨i, hi⟩ := List.mem_iff_getElem?.mp hb
    obtain ⟨-, rfl⟩ := solvedPlan_slot hi
    exact plannedAt_length_of_not hnot
  · obtain ⟨i, hi⟩ := List.mem_iff_getElem?.mp hb
    obtain ⟨-, rfl⟩ := solvedPlan_slot hi
    obtain ⟨hlast, hsome⟩ := plannedAt_closer_iff.mp hclose
    obtain ⟨c, rfl⟩ := Option.ne_none_iff_exists'.mp hsome
    obtain ⟨hcsteps, hleast, hmost, halone⟩ := hcloser c rfl
    rw [show (plannedAt k (some c) _ _ 0 n.toNat start i).length = c from if_pos hlast]
    refine ⟨hsaw hsome, rfl, hcsteps, hleast, hmost, fun h1 => ?_⟩
    obtain ⟨hlo, hhi⟩ := halone (by omega)
    have hfirst : i = 0 := by omega
    have hleft : (plannedAt k (some c) (evenJoint k (stop - start) n (some c)) (tenthsOver k (stop - start) n (some c)) 0
        n.toNat start i).left = start := by simp [plannedAt, hfirst]
    rw [hleft]
    omega

end Solve

end Sys2Proof.Machine
end

section
/-! The support check, tenth by tenth, and the bed that a course below gives (02 R42, R43). -/

namespace Sys2Proof.Machine

/-! ### Spans and the tenths in them -/

/-- A tenth lies in one of the spans. -/
def inSpans (spans : List (Int × Int)) (x : Int) : Prop := ∃ c ∈ spans, c.1 ≤ x ∧ x < c.2

theorem inSpans_singleton {c : Int × Int} {x : Int} : inSpans [c] x ↔ c.1 ≤ x ∧ x < c.2 := by simp [inSpans]

theorem mem_cutSpan {spans : List (Int × Int)} {c b : Int × Int} :
    b ∈ cutSpan spans c ↔ ∃ a ∈ spans, (b = (a.1, min a.2 c.1) ∨ b = (max a.1 c.2, a.2)) ∧ b.1 < b.2 := by
  simp [cutSpan, List.mem_flatMap]

theorem inSpans_cutSpan {spans : List (Int × Int)} {c : Int × Int} {x : Int} :
    inSpans (cutSpan spans c) x ↔ inSpans spans x ∧ ¬ (c.1 ≤ x ∧ x < c.2) := by
  constructor
  · rintro ⟨b, hb, hlo, hhi⟩
    obtain ⟨a, ha, rfl | rfl, -⟩ := mem_cutSpan.mp hb
    · dsimp only at hlo hhi
      exact ⟨⟨a, ha, by omega, by omega⟩, by omega⟩
    · dsimp only at hlo hhi
      exact ⟨⟨a, ha, by omega, by omega⟩, by omega⟩
  · rintro ⟨⟨a, ha, hlo, hhi⟩, hout⟩
    by_cases hbelow : x < c.1
    · refine ⟨(a.1, min a.2 c.1), mem_cutSpan.mpr ⟨a, ha, .inl rfl, ?_⟩, ?_, ?_⟩
      all_goals dsimp only; omega
    · refine ⟨(max a.1 c.2, a.2), mem_cutSpan.mpr ⟨a, ha, .inr rfl, ?_⟩, ?_, ?_⟩
      all_goals dsimp only; omega

theorem inSpans_cutSpans {spans cuts : List (Int × Int)} {x : Int} :
    inSpans (cutSpans spans cuts) x ↔ inSpans spans x ∧ ¬ inSpans cuts x := by
  induction cuts generalizing spans with
  | nil => simp [cutSpans, inSpans]
  | cons c cuts ih =>
    rw [show cutSpans spans (c :: cuts) = cutSpans (cutSpan spans c) cuts from rfl, ih, inSpans_cutSpan, and_assoc,
      ← not_or]
    simp [inSpans]

/-- Cutting leaves no empty spans. -/
theorem cutSpans_nonempty {spans cuts : List (Int × Int)} (h : ∀ a ∈ spans, a.1 < a.2) :
    ∀ a ∈ cutSpans spans cuts, a.1 < a.2 := by
  induction cuts generalizing spans with
  | nil => exact h
  | cons c cuts ih => exact ih fun b hb => (mem_cutSpan.mp hb).elim fun _ ha => ha.2.2

theorem spans_eq_nil_iff {spans : List (Int × Int)} (h : ∀ a ∈ spans, a.1 < a.2) :
    spans = [] ↔ ∀ x, ¬ inSpans spans x := by
  constructor
  · rintro rfl x ⟨_, hc, -⟩
    cases hc
  · intro hnone
    exact List.eq_nil_iff_forall_not_mem.mpr fun a ha => hnone a.1 ⟨a, ha, le_refl _, h a ha⟩

/-! ### The check of one slot -/

section Check

variable {bed : Bed} {order : Nat} {p : SlotPlan}

/-- R42: the slots below that share a tenth with the new one. -/
def SlotPlan.under (p : SlotPlan) (bed : Bed) : List (Nat × (Int × Int)) :=
  bed.slots.filter fun e => max p.left e.2.1 < min (p.left + p.length) e.2.2

/-- R43: some tenth of the slot is not covered; some is neither covered nor borne. -/
theorem bare_eq_nil_iff (hpos : 0 < p.length) :
    cutSpans [(p.left, p.left + p.length)] bed.covered = [] ↔
      ∀ x, p.left ≤ x → x < p.left + p.length → inSpans bed.covered x := by
  rw [spans_eq_nil_iff (cutSpans_nonempty (by simpa using hpos))]
  simp only [inSpans_cutSpans, inSpans_singleton, not_and, not_not, and_imp]

theorem unborne_eq_nil_iff (hpos : 0 < p.length) :
    cutSpans (cutSpans [(p.left, p.left + p.length)] bed.covered) bed.lintels = [] ↔
      ∀ x, p.left ≤ x → x < p.left + p.length → inSpans bed.covered x ∨ inSpans bed.lintels x := by
  rw [spans_eq_nil_iff (cutSpans_nonempty (cutSpans_nonempty (by simpa using hpos)))]
  simp only [inSpans_cutSpans, inSpans_singleton, not_and, not_not, and_imp, or_iff_not_imp_left]

theorem supportSlot_eq (bed : Bed) (order : Nat) (p : SlotPlan) :
    supportSlot bed order p =
      if 4 < (p.under bed).length then .error (Reply.refusedWith .supportOverflow (u8 order ++ u8 p.index))
      else if cutSpans [(p.left, p.left + p.length)] bed.covered = [] then
        .ok { p with supports := (p.under bed).map Prod.fst, lintelSupported := false }
      else if cutSpans (cutSpans [(p.left, p.left + p.length)] bed.covered) bed.lintels = [] then
        .ok { p with supports := (p.under bed).map Prod.fst, lintelSupported := true }
      else .error (Reply.refusedWith .unsupported (u8 order ++ u8 p.index)) := by
  simp only [supportSlot, List.length_map]
  rfl

/-- R42, R43: a slot that is taken. -/
theorem supportSlot_taken (hpos : 0 < p.length) {q : SlotPlan} (h : supportSlot bed order p = .ok q) :
    q.supports = (p.under bed).map Prod.fst ∧ q.supports.length ≤ 4 ∧
      (∀ x, p.left ≤ x → x < p.left + p.length → inSpans bed.covered x ∨ inSpans bed.lintels x) ∧
      (q.lintelSupported = true ↔ ∃ x, p.left ≤ x ∧ x < p.left + p.length ∧ ¬ inSpans bed.covered x) ∧
      q = { p with supports := q.supports, lintelSupported := q.lintelSupported } := by
  rw [supportSlot_eq] at h
  obtain ⟨hfour, h⟩ := ok_of_unless h
  split at h
  next hcovered =>
    cases h
    have hall := (bare_eq_nil_iff hpos).mp hcovered
    exact ⟨rfl, by simpa using hfour, fun x hlo hhi => .inl (hall x hlo hhi),
      ⟨nofun, fun ⟨x, hlo, hhi, hbare⟩ => absurd (hall x hlo hhi) hbare⟩, rfl⟩
  next hbare =>
    split at h
    next hborne =>
      cases h
      refine ⟨rfl, by simpa using hfour, (unborne_eq_nil_iff hpos).mp hborne, ⟨fun _ => ?_, fun _ => rfl⟩, rfl⟩
      by_contra hnone
      exact hbare ((bare_eq_nil_iff hpos).mpr fun x hlo hhi => not_not.mp fun hx => hnone ⟨x, hlo, hhi, hx⟩)
    · cases h

/-- R42, R43: a slot that is refused. -/
theorem supportSlot_error (hpos : 0 < p.length) {e : Reply} (h : supportSlot bed order p = .error e) :
    (e = Reply.refusedWith .supportOverflow (u8 order ++ u8 p.index) ∧ 4 < (p.under bed).length) ∨
      (e = Reply.refusedWith .unsupported (u8 order ++ u8 p.index) ∧
        ∃ x, p.left ≤ x ∧ x < p.left + p.length ∧ ¬ inSpans bed.covered x ∧ ¬ inSpans bed.lintels x) := by
  rw [supportSlot_eq] at h
  rcases error_of_unless h with ⟨hfour, he⟩ | ⟨-, h⟩
  · exact .inl ⟨he, hfour⟩
  · split at h
    · cases h
    · split at h
      · cases h
      next hunborne =>
        refine .inr ⟨(Except.error.inj h).symm, ?_⟩
        by_contra hnone
        refine hunborne ((unborne_eq_nil_iff hpos).mpr fun x hlo hhi => ?_)
        by_contra hx
        rw [not_or] at hx
        exact hnone ⟨x, hlo, hhi, hx⟩

end Check

/-! ### The bed (R42, R43) -/

section Bed

variable {s : State} {r : Wall} {below : Course} {x : Int}

theorem State.inSpans_covered : inSpans (s.bedOn r below).covered x ↔
    ∃ id ∈ below.runIds.getD [], ∃ run e, s.run id = some run ∧ (s.slotsAt run.slotIds).getLast? = some e ∧
      run.start ≤ x ∧ x < s.plannedRight e.2 := by
  constructor
  · rintro ⟨_, hc, hlo, hhi⟩
    obtain ⟨id, hid, rfl⟩ := List.mem_map.mp hc
    unfold State.coveredBy at hlo hhi
    cases hlast : (s.slotsAt ((s.run id).getD Run.blank).slotIds).getLast? with
    | none =>
      rw [hlast] at hhi
      exact absurd (hlo.trans_lt hhi) (lt_irrefl _)
    | some e =>
      rw [hlast] at hhi
      cases hr : s.run id with
      | none =>
        rw [hr] at hlast
        cases hlast
      | some run =>
        rw [hr] at hlast hlo
        exact ⟨id, hid, run, e, hr, hlast, hlo, hhi⟩
  · rintro ⟨id, hid, run, e, hr, hlast, hlo, hhi⟩
    refine ⟨_, List.mem_map_of_mem hid, ?_⟩
    rw [hr, Option.getD_some, State.coveredBy, hlast]
    exact ⟨hlo, hhi⟩

theorem State.inSpans_lintels : inSpans (s.bedOn r below).lintels x ↔
    ∃ e ∈ s.chain r, ∃ l, e.2.lintel = some l ∧
      magnitude (l.topZ - (below.baseZ + (s.kind below.kind).height)) ≤ s.params.tolZ ∧
      e.2.xa - l.bearing ≤ x ∧ x ≤ e.2.xb + l.bearing := by
  constructor
  · rintro ⟨c, hc, hlo, hhi⟩
    obtain ⟨e, he, hspan⟩ := List.mem_filterMap.mp hc
    cases hl : e.2.lintel with
    | none =>
      rw [hl] at hspan
      cases hspan
    | some l =>
      rw [hl] at hspan
      obtain ⟨hnear, hc⟩ := Option.ite_none_right_eq_some.mp hspan
      obtain rfl := Option.some.inj hc
      exact ⟨e, he, l, hl, hnear, hlo, Int.lt_add_one_iff.mp hhi⟩
  · rintro ⟨e, he, l, hl, hnear, hlo, hhi⟩
    refine ⟨(e.2.xa - l.bearing, e.2.xb + l.bearing + 1), List.mem_filterMap.mpr ⟨e, he, ?_⟩, hlo,
      Int.lt_add_one_iff.mpr hhi⟩
    rw [hl]
    exact if_pos hnear

end Bed

/-- Settles O27, by the tenths that cutting spans out of a span leaves. -/
theorem supportCheckJudgesEveryTenth : Obligations.SupportCheckJudgesEveryTenth := by
  have hnot {spans : List (Int × Int)} {x : Int} : ¬ inSpans spans x ↔ ∀ c ∈ spans, ¬ (c.1 ≤ x ∧ x < c.2) := by
    simp [inSpans]
  refine ⟨fun bed order p hpos => ⟨fun q hq => ?_, fun e he => ?_⟩, fun s r below =>
    ⟨rfl, fun x => State.inSpans_covered, fun x => State.inSpans_lintels⟩⟩
  · have htaken := supportSlot_taken hpos hq
    simp only [hnot] at htaken
    exact htaken
  · have hrefused := supportSlot_error hpos he
    simp only [hnot] at hrefused
    exact hrefused

end Sys2Proof.Machine
end

section
/-! The load inactivity timeout (02 R28). -/

namespace Sys2Proof.Machine

/-- R28: the fault that the timeout reports. -/
def State.timeoutReport (s : State) (l : Load) : Report :=
  { flag := .loadTimeout, severity := 2, slot := none, course := s.capturedCourse l.entry, port := some .p
    detail := l.received.length }

theorem loadTimeout_of_due {s : State} {l : Load} (hload : s.load = some l)
    (hdue : 5000 ≤ elapsed s.siteTime (l.deadline - 5000)) :
    loadTimeout s = s.dropLoad.report (s.timeoutReport l) := by
  simp only [loadTimeout, hload]
  exact if_pos (decide_eq_true hdue)

theorem loadTimeout_of_not_due {s : State} {l : Load} (hload : s.load = some l)
    (hdue : elapsed s.siteTime (l.deadline - 5000) < 5000) : loadTimeout s = s := by
  simp only [loadTimeout, hload]
  exact if_neg fun h => absurd (of_decide_eq_true h) (Nat.not_le.mpr hdue)

/-- Settles O29, by the report and the load that is dropped. -/
theorem loadTimeoutAbandonsTheLoad : Obligations.LoadTimeoutAbandonsTheLoad := by
  intro s hs
  have hexec : exec .loadInactivityTimeout s = .next (loadTimeout s) :=
    event_of_running loadTimeout s (State.held_of_running hs)
  rw [hexec]
  refine ⟨fun l hload hdue => ⟨_, rfl, ?_⟩, fun l hload hdue => ?_, fun hload => ?_⟩
  · have hentry (e : Nat) : (s.load.any fun l => decide (l.entry = e)) = decide (l.entry = e) := by rw [hload]; rfl
    rw [loadTimeout_of_due hload hdue]
    have hcourse (e : Nat) : (s.dropLoad.report (s.timeoutReport l)).course e =
        if l.entry = e then none else s.course e := by
      have hdrop := s.dropLoad_course e
      simp only [hentry, decide_eq_true_eq] at hdrop
      exact hdrop
    refine ⟨?_, ?_, fun e he => ?_, ?_, ?_, ?_, ?_⟩
    · exact State.dropLoad_load s
    · rw [hcourse, if_pos rfl]
    · rw [hcourse, if_neg (Ne.symm he)]
    all_goals rw [State.dropLoad_frame]; rfl
  · rw [loadTimeout_of_not_due hload hdue]
  · simp only [loadTimeout, hload]

end Sys2Proof.Machine
end

section
/-! The input filters and the edges of the sensor lines (10 R175 to R178, 06 R129, 08 R160). -/

namespace Sys2Proof.Machine

/-! ### Site time and the wait of a filter (R175, R176) -/

/-- R175: site time counts the milliseconds that have passed, whatever it stood at. -/
theorem elapsed_add_ofNat (start : Time) {n : Nat} (hn : n < 4294967296) :
    elapsed (start + BitVec.ofNat 32 n) start = n := by
  rw [elapsed, add_sub_cancel_left, BitVec.toNat_ofNat, Nat.mod_eq_of_lt hn]

/-- R176: a wait that starts now is due when 10 ms have passed and the levels differ. -/
theorem Filter.edgeDue_iff_of_started (raw level : Bool) (start : Time) {n : Nat} (hn : n < 4294967296) :
    ({ raw := raw, level := level, changedAt := start } : Filter).edgeDue (start + BitVec.ofNat 32 n) =
      ((raw != level) && decide (10 ≤ n)) := by
  rw [Filter.edgeDue, elapsed_add_ofNat start hn]
  cases raw <;> cases level <;> rfl

theorem rawChange_of_same {line : Line} {b : Bool} {s : State} (h : (s.filters.get line).raw = b) :
    rawChange line b s = s := if_pos h

/-- R176: a raw level that changes while the part works starts a fresh wait of its own line. -/
theorem rawChange_of_change {line : Line} {b : Bool} {s : State} (hs : s.hold = .running)
    (h : (s.filters.get line).raw ≠ b) :
    rawChange line b s =
      { s with
        filters := s.filters.put line
          { raw := b, level := (s.filters.get line).level, changedAt := s.siteTime } } := by
  rw [rawChange, if_neg h, if_neg (by rw [State.held_of_running hs]; exact Bool.false_ne_true)]

/-- Settles O50, by the fresh wait that a change starts. -/
theorem edgesNeedTenMilliseconds : Obligations.EdgesNeedTenMilliseconds := by
  refine ⟨fun s hs => event_of_running tick s (State.held_of_running hs),
    fun line b s hraw => congrArg Host.Outcome.next (rawChange_of_same hraw), fun line b s hs hraw =>
    ⟨_, congrArg Host.Outcome.next (rawChange_of_change hs hraw), ?_⟩⟩
  simp only [Lines.get_put_same, true_and]
  refine ⟨fun other ho => Lines.get_put_other _ _ ho, fun n hn => ?_, fun n hn hlt => ?_⟩
  · rw [Filter.edgeDue_iff_of_started _ _ _ (by omega), decide_eq_false (by omega), Bool.and_false]
  · rw [Filter.edgeDue_iff_of_started _ _ _ hlt, decide_eq_true hn, Bool.and_true]

/-! ### Edges (R176 to R178) -/

/-- An edge that the filter does not give does not occur (log 4). -/
theorem event_edge_of_not_given {line : Line} {rising : Bool} (effect : State → State) {s : State}
    (hs : s.hold = .running)
    (h : (s.filters.get line).edgeDue s.siteTime = false ∨ (s.filters.get line).raw ≠ rising) :
    event (edge line rising effect) s = .next s := by
  rw [event_of_running _ _ (State.held_of_running hs), edge, if_neg]
  rintro ⟨hdue, hraw⟩
  rcases h with h | h
  · exact Bool.false_ne_true (h.symm.trans hdue)
  · exact h hraw

/-- A reason that is raised under a condition. -/
theorem or_ite_zero {w : Nat} (p : Prop) [Decidable p] (x bit : BitVec w) :
    (x ||| if p then bit else 0) = if p then x ||| bit else x := by
  split
  · rfl
  · exact BitVec.or_zero ..

/-- R177, R178: an edge that is handed to no block: the filtered level, the line's reason and the outputs. -/
theorem event_edge_without_effect {line : Line} {rising : Bool} {s : State} (hs : s.hold = .running)
    (hdue : (s.filters.get line).edgeDue s.siteTime = true) (hraw : (s.filters.get line).raw = rising) :
    ∃ t, event (edge line rising id) s = .next t ∧
      t.filters = s.filters.put line { s.filters.get line with level := rising } ∧
      t.reasons = (if s.senses.get line = (if rising then .rising else .falling)
        then s.reasons ||| (lineReason line).bit else s.reasons) ∧
      t = { s with filters := t.filters, reasons := t.reasons, attn := t.attn, haltReq := t.haltReq } := by
  have hevent := event_edge_of_due id hs hdue hraw
  rw [id_eq] at hevent
  refine ⟨_, hevent, ?_⟩
  have hedge := (s.withLevel line rising).judgeEdge_frame line rising
  generalize (s.withLevel line rising).judgeEdge line rising = t at hedge ⊢
  refine ⟨congrArg State.filters hedge, (congrArg State.reasons hedge).trans (or_ite_zero ..), by rw [hedge]; rfl⟩

/-- Settles O51, by the edge that the filter does not give and the edge that is handed to no block. -/
theorem edgesWithoutEffectOnABlock : Obligations.EdgesWithoutEffectOnABlock := by
  refine ⟨fun i line rising s hs hi h => ?_, fun i line rising s hs hi => ?_⟩
  · obtain ⟨rfl, rfl, rfl⟩ | ⟨rfl, rfl, rfl⟩ | ⟨rfl, rfl, rfl⟩ | ⟨rfl, rfl, rfl⟩ | ⟨rfl, rfl, rfl⟩ |
      ⟨rfl, rfl, rfl⟩ | ⟨rfl, rfl, rfl⟩ := hi
    · exact event_edge_of_not_given loseSight hs h
    · exact event_edge_of_not_given id hs h
    · exact event_edge_of_not_given parkLost hs h
    · exact event_edge_of_not_given id hs h
    · exact event_edge_of_not_given id hs h
    · exact event_edge_of_not_given groundShift hs h
    · exact event_edge_of_not_given id hs h
  · have hexec : exec i s = event (edge line rising id) s := by
      obtain ⟨rfl, rfl, rfl⟩ | ⟨rfl, rfl, rfl⟩ | ⟨rfl, rfl, rfl⟩ | ⟨rfl, rfl, rfl⟩ := hi <;> rfl
    rw [hexec]
    exact ⟨fun hdue => event_edge_of_not_given id hs (.inl hdue), event_edge_without_effect hs⟩

/-! ### The ground shift (R160) -/

/-- R160: what a shift of the ground leaves at a station. -/
theorem groundShift_frame (s : State) :
    groundShift s =
      { s with
        station := if s.station.state = .parked ∨ s.station.state = .draining
          then { s.station with datumValid := false } else s.station
        reasons := s.reasons |||
          (if s.station.state = .parked ∨ s.station.state = .draining then Reason.datumLost.bit else 0)
        attn := (groundShift s).attn, haltReq := (groundShift s).haltReq } := by
  by_cases huse : s.station.state = .parked ∨ s.station.state = .draining
  · rw [groundShift, if_pos (StationState.inUse_iff.mpr huse), if_pos huse, if_pos huse]
    rfl
  · rw [groundShift, if_neg fun h => huse (StationState.inUse_iff.mp h), if_neg huse, if_neg huse]
    exact congrArg (fun r => { s with reasons := r }) (BitVec.or_zero ..).symm

/-! ### The statement -/

/-- Settles O53, by what the loss of sight and the shift of the ground leave, and the line's own reason. -/
theorem armReadyFallsAndTheGroundShifts : Obligations.ArmReadyFallsAndTheGroundShifts := by
  refine ⟨fun s => ⟨fun e he => ⟨List.mem_of_find?_eq_some he, ?_⟩, fun hnone e he => ?_⟩,
    fun s hs hdue hraw => ?_, fun s hs hdue hraw => ?_⟩
  · simpa using List.find?_some he
  · simpa using List.find?_eq_none.mp hnone e he
  · have hexec : exec .armReadyFalling s =
        .next ((loseSight (s.withLevel .armReady false)).judgeEdge .armReady false) :=
      event_edge_of_due (line := .armReady) loseSight hs hdue hraw
    have hedge := (loseSight (s.withLevel .armReady false)).judgeEdge_frame .armReady false
    have hsight := loseSight_frame (s.withLevel .armReady false)
    have hslot := fun id sl => loseSight_slot (s := s.withLevel .armReady false) (id := id) (sl := sl)
    have hlost := loseSight_of_noneIssued (s := s.withLevel .armReady false)
    refine ⟨fun id sl hissued hsl => ⟨_, hexec, ?_⟩, fun hnone => ⟨_, hexec, ?_⟩⟩
    · specialize hslot id sl hissued hsl
      rw [show (s.withLevel .armReady false).issuedSlot = some (id, sl) from hissued] at hsight
      generalize (loseSight (s.withLevel .armReady false)).judgeEdge .armReady false = t at hedge ⊢
      generalize loseSight (s.withLevel .armReady false) = v at *
      have hkept : ∀ j, t.slot j = v.slot j := fun j =>
        congrArg (Table.find · j) (congrArg State.slots hedge :)
      rw [hsight] at hedge
      refine ⟨(hkept id).trans hslot.1, fun j hj => (hkept j).trans (hslot.2 j hj), ?_, ?_, ?_⟩
      · exact congrArg (fun u => u.filters.arm.level) hedge
      · exact congrArg State.reasons hedge
      · rw [hedge]
        rfl
    · rw [hlost hnone] at hedge ⊢
      exact ⟨congrArg State.reasons hedge, by rw [hedge]; rfl⟩
  · have hexec : exec .groundShiftRising s =
        .next ((groundShift (s.withLevel .groundShift true)).judgeEdge .groundShift true) :=
      event_edge_of_due (line := .groundShift) groundShift hs hdue hraw
    have hedge := (groundShift (s.withLevel .groundShift true)).judgeEdge_frame .groundShift true
    have hshift := groundShift_frame (s.withLevel .groundShift true)
    refine ⟨_, hexec, ?_⟩
    generalize (groundShift (s.withLevel .groundShift true)).judgeEdge .groundShift true = t at hedge ⊢
    rw [hshift] at hedge
    exact ⟨congrArg State.station hedge, congrArg State.reasons hedge, by rw [hedge]; rfl⟩

end Sys2Proof.Machine
end

section
/-! PICK that assigns no brick, and DELIVERED (05 R94 to R98, R102 to R104, 11 R191). -/

namespace Sys2Proof.Machine

/-! ### The checks of PICK (R94) -/

section Pick

variable {s : State} {kind : Nat} (gauged : Int)

theorem pick_of_outOfRange (hkind : 7 < kind) : pick kind gauged s = (Reply.refuse .outOfRange, s) := if_pos hkind

variable (hkind : kind ≤ 7)
include hkind

theorem pick_of_notParked (hstation : s.station.state ≠ .parked) :
    pick kind gauged s = ({ answer := .hold, reason := .station, detail := s.stationField }, s) := by
  rw [pick, if_neg (Nat.not_lt.mpr hkind), if_pos hstation]

variable (hparked : s.station.state = .parked)
include hparked

theorem pick_of_severe (hsevere : s.flags.severe = true) :
    pick kind gauged s = ({ answer := .hold, reason := .halted, detail := s.flags.severeField }, s) := by
  rw [pick, if_neg (Nat.not_lt.mpr hkind), if_neg (not_not.mpr hparked), if_pos hsevere]

variable (hsevere : s.flags.severe = false)
include hsevere

theorem pick_of_full (hfull : 6 ≤ s.queue.length) : pick kind gauged s = (Reply.plain .busy [], s) := by
  rw [pick, if_neg (Nat.not_lt.mpr hkind), if_neg (not_not.mpr hparked), if_neg (Bool.eq_false_iff.mp hsevere),
    queueCapacity, if_pos hfull]

variable (hroom : s.queue.length < 6)
include hroom

theorem pick_of_noCandidate (hnone : s.candidate = none) : pick kind gauged s = (Reply.plain .none [], s) := by
  rw [pick, if_neg (Nat.not_lt.mpr hkind), if_neg (not_not.mpr hparked), if_neg (Bool.eq_false_iff.mp hsevere),
    queueCapacity, if_neg (Nat.not_le.mpr hroom), hnone]

/-- R94: once the belt takes a brick, the candidate decides. -/
theorem pick_of_candidate {id : Nat} {sl : Slot} (hsome : s.candidate = some (id, sl)) :
    pick kind gauged s =
      if kind ≠ sl.kind then (Reply.refusedWith .wrongKind (u16 id ++ u8 sl.kind), s)
      else if (s.kind sl.kind).lt < magnitude (gauged - (s.kind sl.kind).length) then
        (Reply.refusedWith .lengthOut (u16 id ++ s24Field (gauged - (s.kind sl.kind).length)), s)
      else assign id sl gauged s := by
  rw [pick, if_neg (Nat.not_lt.mpr hkind), if_neg (not_not.mpr hparked), if_neg (Bool.eq_false_iff.mp hsevere),
    queueCapacity, if_neg (Nat.not_le.mpr hroom), hsome]

end Pick

/-- A request of the feeder whose body replies and leaves the state as it is: the summary is that of the queue as it
stood. -/
theorem exec_of_feeder_body_unchanged {i : Instr} {h : Header} {body : State → Reply × State} {s : State} {r : Reply}
    (hx : exec i s = serve i body s) (hh : i.header = some h) (hs : s.serves i = true) (hb : IgnoresPortUnit body)
    (hp : h.port = .f) (he : body s = (r, s)) :
    ∃ t, exec i s = .next t ∧ Answered s i h t { r with detail := r.detail ++ s.queueSummary } ∧
      t = s.withPortUnitOf t := by
  obtain ⟨t, hnext, hans, ht⟩ := exec_of_feeder_body hx hh hs hb hp he
  rw [State.queueSummary_of_withPortUnitOf ht] at hans
  exact ⟨t, hnext, hans, ht⟩

theorem State.queueSummary_of_cons {s : State} {e : Entry} {rest : List Entry} (h : s.queue = e :: rest) :
    s.queueSummary = [s.generation] ++ u8 s.queue.length ++ u8 (if e.position = .atGripper then 3 else 1) ++
      [e.generation] ++ u16 e.slot := by
  have hflags : flagsByte [true, decide (e.position = .atGripper)] =
      u8 (if e.position = .atGripper then 3 else 1) := by
    cases e.position <;> rfl
  rw [State.queueSummary, h]
  dsimp only
  rw [hflags, List.append_assoc, List.append_assoc, List.append_assoc, List.append_assoc, List.append_assoc]

/-- Settles O35, by the checks of PICK in their order. -/
theorem pickHoldsInOrder : Obligations.PickHoldsInOrder := by
  refine ⟨fun s => ⟨fun hnil => by rw [State.queueSummary, hnil]; rfl, fun e rest => State.queueSummary_of_cons⟩,
    fun tag kind gauged answer s hs hcases => ?_⟩
  refine exec_of_feeder_body_unchanged (by rfl) rfl hs (pick_ignores kind gauged) rfl ?_
  obtain ⟨hkind, rfl⟩ | ⟨hkind, hstation, rfl⟩ | ⟨hkind, hparked, hsevere, rfl⟩ |
    ⟨hkind, hparked, hsevere, hfull, rfl⟩ | ⟨hkind, hparked, hsevere, hroom, hcandidate⟩ := hcases
  · exact pick_of_outOfRange gauged hkind
  · exact pick_of_notParked gauged hkind hstation
  · exact pick_of_severe gauged hkind hparked hsevere
  · exact pick_of_full gauged hkind hparked hsevere hfull
  · obtain ⟨hnone, rfl⟩ | ⟨id, sl, hsome, hcase⟩ := hcandidate
    · exact pick_of_noCandidate gauged hkind hparked hsevere hroom hnone
    · rw [pick_of_candidate gauged hkind hparked hsevere hroom hsome]
      obtain ⟨hother, rfl⟩ | ⟨hsame, hlength, rfl⟩ := hcase
      · exact if_pos hother
      · exact (if_neg (not_not.mpr hsame)).trans (if_pos hlength)

/-! ### DELIVERED (R102 to R104) -/

section Delivered

variable {s : State} {generation : Byte} {id : Nat} (hid : id < 512)
include hid

theorem delivered_stale (hstale : generation ≠ s.generation) :
    delivered generation id s = (Reply.plain .discard [], s) := by
  rw [delivered, slotCapacity, if_neg (Nat.not_le.mpr hid), if_pos hstale]

theorem delivered_head {e : Entry} {rest : List Entry} (hqueue : s.queue = e :: rest)
    (hcurrent : generation = s.generation) (hgeneration : e.generation = generation) (hslot : e.slot = id)
    (hbelt : e.position = .onBelt) :
    delivered generation id s = (Reply.okay, { s with queue := { e with position := .atGripper } :: rest }) := by
  rw [delivered, slotCapacity, if_neg (Nat.not_le.mpr hid), if_neg (not_not.mpr hcurrent), hqueue]
  exact if_pos ⟨hslot, hgeneration, hbelt⟩

/-- R104: a tag of the current generation that is not that of a head on the belt. -/
theorem delivered_outOfSequence {expected : Int} (hcurrent : generation = s.generation)
    (hexpected : (s.queue = [] ∧ expected = -1) ∨
      ∃ e rest, s.queue = e :: rest ∧ expected = e.slot ∧
        (e.slot ≠ id ∨ e.generation ≠ generation ∨ e.position = .atGripper)) :
    delivered generation id s = sequenceFault id s ∧ s.expectedSlot = expected := by
  rw [delivered, slotCapacity, if_neg (Nat.not_le.mpr hid), if_neg (not_not.mpr hcurrent), State.expectedSlot]
  obtain ⟨hnil, rfl⟩ | ⟨e, rest, hqueue, rfl, hother⟩ := hexpected
  · rw [hnil]
    exact ⟨rfl, rfl⟩
  · rw [hqueue]
    refine ⟨if_neg ?_, rfl⟩
    rintro ⟨hslot, hgeneration, hbelt⟩
    rcases hother with h | h | h
    · exact h hslot
    · exact h hgeneration
    · rw [hbelt] at h
      cases h

end Delivered

/-- R104, R163 to R166: what the report of a delivery out of sequence leaves. -/
theorem sequenceFault_eq (s : State) (id : Nat) :
    (sequenceFault id s).2 =
      { s with
        flags := { s.flags with sequence := true }
        processCapture := offered s.processCapture
          { cls := .sequence, severity := 4, time := s.siteTime, slot := some id
            course := (s.slot id).bind fun sl => s.capturedCourse sl.course, port := some .f
            detail := s.expectedSlot }
        reasons := if s.flags.sequence then s.reasons else s.reasons ||| Reason.fault.bit
        attn := (sequenceFault id s).2.attn, haltReq := true } := by
  have hreasons : s.reasons ||| ((FaultFlag.sequence.reason s.flags.sequence).map Reason.bit).getD 0 =
      if s.flags.sequence then s.reasons else s.reasons ||| Reason.fault.bit := by
    cases s.flags.sequence with
    | true => exact BitVec.or_zero ..
    | false => rfl
  rw [sequenceFault, State.report_eq, ← hreasons]
  rfl

/-- Settles O37, by the tag compared with that of the head. -/
theorem deliveredComparesTheTag : Obligations.DeliveredComparesTheTag := by
  refine ⟨fun tag generation id s hs hid => ?_, fun tag generation id s hs hid =>
    ⟨fun hstale => ?_, fun e rest hqueue hcurrent hgeneration hslot hbelt => ?_, fun expected hcurrent hcases => ?_⟩⟩
  · exact exec_of_feeder_body_unchanged (by rfl) rfl hs (delivered_ignores generation id) rfl
      (if_pos hid : _ = (Reply.refuse .outOfRange, s))
  · exact exec_of_feeder_body_unchanged (by rfl) rfl hs (delivered_ignores generation id) rfl
      (delivered_stale hid hstale)
  · exact exec_of_feeder_body (by rfl) rfl hs (delivered_ignores generation id) rfl
      (delivered_head hid hqueue hcurrent hgeneration hslot hbelt)
  · obtain ⟨hfault, rfl⟩ := delivered_outOfSequence hid hcurrent hcases
    obtain ⟨t, hnext, hans, ht⟩ := exec_of_feeder_body (by rfl) rfl hs (delivered_ignores generation id) rfl
      (hfault.trans (Prod.mk.eta (p := sequenceFault id s)).symm)
    rw [sequenceFault_eq] at ht
    have hsummary : t.queueSummary = s.queueSummary := by
      rw [State.queueSummary_of_withPortUnitOf ht]
      rfl
    rw [hsummary] at hans
    exact ⟨t, hnext, hans, congrArg State.flags ht, congrArg State.haltReq ht, congrArg State.reasons ht,
      congrArg State.processCapture ht, by rw [ht]; rfl⟩

end Sys2Proof.Machine
end

section
/-! STATION SET, DATUM and STATION MOVE (08 R150 to R155). -/

namespace Sys2Proof.Machine

theorem StationState.notInUse_iff {st : StationState} : ¬ st.inUse = true ↔ st ≠ .parked ∧ st ≠ .draining := by
  rw [StationState.inUse_iff, not_or]

/-! ### STATION SET (R150, R151) -/

section StationSet

variable {w : Nat} (xLo xHi : Int) {zHi : Int} {s : State}

theorem stationSet_outOfRange (hrange : ¬ (w ≤ 3 ∧ 1 ≤ zHi ∧ zHi ≤ 8388607)) :
    stationSet w xLo xHi zHi s = (Reply.refuse .outOfRange, s) := if_pos (by omega)

variable (hrange : w ≤ 3 ∧ 1 ≤ zHi ∧ zHi ≤ 8388607)
include hrange

theorem stationSet_inUse (huse : s.station.state = .parked ∨ s.station.state = .draining) :
    stationSet w xLo xHi zHi s = (Reply.refusedWith .badState s.stationField, s) := by
  rw [stationSet, if_neg (by omega), if_pos (StationState.inUse_iff.mpr huse)]

variable (huse : ¬ (s.station.state = .parked ∨ s.station.state = .draining))
include huse

theorem stationSet_notParked (hlevel : s.filters.parked.level = false) :
    stationSet w xLo xHi zHi s = (Reply.refuse .notParked, s) := by
  rw [stationSet, if_neg (by omega), if_neg (mt StationState.inUse_iff.mp huse), if_pos hlevel]

variable (hlevel : s.filters.parked.level = true)
include hlevel

theorem stationSet_closed (hwall : s.wall w = none) :
    stationSet w xLo xHi zHi s = s.refuseNoRecord .p none 1 w [] := by
  rw [stationSet, if_neg (by omega), if_neg (mt StationState.inUse_iff.mp huse), if_neg (by rw [hlevel]; nofun), withWall,
    hwall]

variable {r : Wall} (hwall : s.wall w = some r)
include hwall

theorem stationSet_open :
    stationSet w xLo xHi zHi s =
      if xLo < 0 ∨ r.length < xHi ∨ xHi ≤ xLo ∨ 80000 < xHi - xLo then (Reply.refuse .outOfRange, s)
      else
        (Reply.okWith (u8 StationState.parked.value ++ u8 w),
          { s with
            station :=
              { s.station with
                state := .parked, wall := w, xLo := xLo, xHi := xHi, zHi := zHi, datumValid := false } }) := by
  rw [stationSet, if_neg (by omega), if_neg (mt StationState.inUse_iff.mp huse), if_neg (by rw [hlevel]; nofun), withWall,
    hwall]
  rfl

end StationSet

/-! ### DATUM (R152, R153) -/

theorem offsetOut_iff {z : Int} : offsetOut z = true ↔ z < -500000 ∨ 500000 < z := decide_eq_true_iff

theorem find_offsetOut_cons {z : Int} (hin : ¬ (z < -500000 ∨ 500000 < z)) (zs : List Int) :
    (z :: zs).find? offsetOut = zs.find? offsetOut := List.find?_cons_of_neg (mt offsetOut_iff.mp hin)

theorem find_offsetOut_head {z : Int} (hout : z < -500000 ∨ 500000 < z) (zs : List Int) :
    (z :: zs).find? offsetOut = some z := List.find?_cons_of_pos (offsetOut_iff.mpr hout)

section Datum

variable {s : State} (ox oy oz skew : Int)

theorem datum_notInUse (huse : s.station.state ≠ .parked ∧ s.station.state ≠ .draining) :
    datum ox oy oz skew s = (Reply.refusedWith .badState s.stationField, s) :=
  if_pos (Bool.eq_false_iff.mpr (StationState.notInUse_iff.mpr huse))

variable (huse : s.station.state = .parked ∨ s.station.state = .draining)
include huse

theorem datum_busy {e : Nat × Slot} (hhand : s.inHand = some e) :
    datum ox oy oz skew s = (Reply.plain .busy (u16 e.1), s) := by
  rw [datum, if_neg (by rw [StationState.inUse_iff.mpr huse]; nofun), hhand]

variable (hhand : s.inHand = none)
include hhand

theorem datum_offset {z : Int} (hfind : [ox, oy, oz].find? offsetOut = some z) :
    datum ox oy oz skew s = (Reply.refusedWith .datumRange (s24Field z), s) := by
  rw [datum, if_neg (by rw [StationState.inUse_iff.mpr huse]; nofun), hhand, hfind]

theorem datum_inRange (hfind : [ox, oy, oz].find? offsetOut = none) :
    datum ox oy oz skew s =
      if s.params.maxSkew < magnitude skew then
        (Reply.refusedWith .datumSkew (s16 skew ++ s16 s.params.maxSkew), s)
      else
        (Reply.okay,
          { s with station := { s.station with ox := ox, oy := oy, oz := oz, skew := skew, datumValid := true } }) := by
  rw [datum, if_neg (by rw [StationState.inUse_iff.mpr huse]; nofun), hhand, hfind]

end Datum

/-! ### STATION MOVE (R154, R155) -/

section StationMove

variable {s : State}

theorem stationMove_drains (hparked : s.station.state = .parked) (hqueue : s.queue ≠ []) :
    stationMove s =
      (Reply.okWith (u8 StationState.draining.value ++ u8 s.queue.length),
        { s with station := { s.station with state := .draining } }) := by
  simp only [stationMove, hparked]
  exact if_neg hqueue

theorem stationMove_done (hparked : s.station.state = .parked) (hqueue : s.queue = []) :
    stationMove s = (Reply.okWith (u8 StationState.moving.value), s.drainDone) := by
  simp only [stationMove, hparked]
  exact if_pos hqueue

theorem stationMove_underWay (h : s.station.state = .draining ∨ s.station.state = .moving) :
    stationMove s = (Reply.okWith s.stationField, s) := by
  rcases h with h | h <;> simp only [stationMove, h]

theorem stationMove_refused (h : s.station.state = .unset ∨ s.station.state = .lost) :
    stationMove s = (Reply.refusedWith .badState s.stationField, s) := by
  rcases h with h | h <;> simp only [stationMove, h]

end StationMove

/-- Settles O49, by the cases of the three bodies in the order of their checks. -/
theorem stationSetDatumAndMove : Obligations.StationSetDatumAndMove := by
  refine ⟨fun tag w xLo xHi zHi r s hs hw hz hz' hparked hdraining hlevel hwall hlo hhi hlt hspan => ?_,
    fun tag ox oy oz skew s hs huse hhand hx hx' hy hy' hz hz' hskew => ?_, fun tag s hs hparked hqueue => ?_,
    fun tag s hs h => ?_, fun tag s hs h => ?_, fun tag s hs hparked hqueue => ?_,
    fun tag w xLo xHi zHi s i h hi hh hs => ?_, fun tag ox oy oz skew s i h hi hh hs => ?_⟩
  · exact exec_of_body (by rfl) rfl hs (stationSet_ignores w xLo xHi zHi) nofun
      ((stationSet_open xLo xHi ⟨hw, hz, hz'⟩ (not_or.mpr ⟨hparked, hdraining⟩) hlevel hwall).trans (if_neg (by omega)))
  · have hfind : [ox, oy, oz].find? offsetOut = none := by
      rw [find_offsetOut_cons (by omega), find_offsetOut_cons (by omega), find_offsetOut_cons (by omega)]
      rfl
    exact exec_of_body (by rfl) rfl hs (datum_ignores ox oy oz skew) nofun
      ((datum_inRange ox oy oz skew huse hhand hfind).trans (if_neg (not_lt.mpr hskew)))
  · exact exec_of_body (by rfl) rfl hs stationMove_ignores nofun (stationMove_drains hparked hqueue)
  · exact exec_of_body (by rfl) rfl hs stationMove_ignores nofun (stationMove_underWay h)
  · exact exec_of_body (by rfl) rfl hs stationMove_ignores nofun (stationMove_refused h)
  · obtain ⟨t, hnext, hans, ht⟩ :=
      exec_of_body (by rfl) rfl hs stationMove_ignores nofun (stationMove_done hparked hqueue)
    exact ⟨t, hnext, hans, congrArg State.reasons ht, by rw [ht]; rfl⟩
  · subst hi hh
    have unchanged (r : Reply) (he : stationSet w xLo xHi zHi s = (r, s)) :
        AnswersUnchanged s (.stationSet tag w xLo xHi zHi) ⟨.p, tag, 22⟩ r :=
      answersUnchanged_of_body (by rfl) rfl hs (stationSet_ignores w xLo xHi zHi) nofun he
    refine ⟨fun hrange => unchanged _ (stationSet_outOfRange xLo xHi hrange), fun hrange => ?_⟩
    replace hrange := not_not.mp hrange
    refine ⟨fun huse => unchanged _ (stationSet_inUse xLo xHi hrange huse), fun huse =>
      ⟨fun hlevel => unchanged _ (stationSet_notParked xLo xHi hrange huse hlevel), fun hlevel => ?_⟩⟩
    replace hlevel := eq_true_of_ne_false hlevel
    refine ⟨fun hclosed => refusesNoRecord_of_body (by rfl) rfl hs (stationSet_ignores w xLo xHi zHi) nofun
        (stationSet_closed xLo xHi hrange huse hlevel hclosed), fun _ => ⟨?_, fun _ => trivial⟩⟩
    rintro ⟨r, hwall, hout⟩
    exact unchanged _ ((stationSet_open xLo xHi hrange huse hlevel hwall).trans (if_pos hout))
  · subst hi hh
    have unchanged (r : Reply) (he : datum ox oy oz skew s = (r, s)) :
        AnswersUnchanged s (.datum tag ox oy oz skew) ⟨.t, tag, 51⟩ r :=
      answersUnchanged_of_body (by rfl) rfl hs (datum_ignores ox oy oz skew) nofun he
    refine ⟨fun huse => unchanged _ (datum_notInUse ox oy oz skew huse), fun huse => ?_⟩
    replace huse := StationState.inUse_iff.mp (not_not.mp (mt StationState.notInUse_iff.mp huse))
    refine ⟨fun _ e hhand => unchanged _ (datum_busy ox oy oz skew huse hhand), fun hhand => ?_⟩
    replace hhand := not_not.mp hhand
    have outside (z : Int) (hfind : [ox, oy, oz].find? offsetOut = some z) :=
      unchanged _ (datum_offset ox oy oz skew huse hhand hfind)
    refine ⟨fun hx => outside ox (find_offsetOut_head hx _), fun hx => ?_⟩
    have hfindX := find_offsetOut_cons hx [oy, oz]
    refine ⟨fun hy => outside oy (hfindX.trans (find_offsetOut_head hy _)), fun hy => ?_⟩
    have hfindY := hfindX.trans (find_offsetOut_cons hy [oz])
    refine ⟨fun hz => outside oz (hfindY.trans (find_offsetOut_head hz _)), fun hz => ?_⟩
    have hfindZ := hfindY.trans (find_offsetOut_cons hz [])
    exact ⟨fun hskew => unchanged _ ((datum_inRange ox oy oz skew huse hhand hfindZ).trans (if_pos hskew)),
      fun _ => trivial⟩

end Sys2Proof.Machine
end

section
/-! What the Joint Solver corrects at an issue (04 R70 to R78), and the expiry of an open joint (06 R127). -/

namespace Sys2Proof.Machine

/-! ### Lengths and faces (R70, R71) -/

section Lengths

variable {s : State} {sl : Slot}

theorem State.currentLength_of_cut {cut : Int} (hcloser : sl.closer = true) (hcut : sl.cutLength = some cut) :
    s.currentLength sl = cut := by
  simp only [State.currentLength, hcloser, hcut]

theorem State.currentLength_of_uncut (h : sl.closer = false ∨ sl.cutLength = none) :
    s.currentLength sl = sl.gauged.getD (s.plannedLength sl) := by
  unfold State.currentLength
  split
  · rename_i hcloser hcut
    rw [hcloser, hcut] at h
    rcases h with h | h <;> cases h
  · rfl

theorem State.knownFace_of_unplaced (h : sl.state = .planned ∨ sl.state = .fed) : s.knownFace sl = none := by
  have hface : sl.state.hasFace = false := by
    rcases h with h | h <;> rw [h] <;> rfl
  rw [State.knownFace, hface]
  exact if_neg nofun

theorem State.knownFace_of_face (hplanned : sl.state ≠ .planned) (hfed : sl.state ≠ .fed) :
    s.knownFace sl =
      match sl.measurement with
      | some m => some (m.xRight, true)
      | none => some (s.targetRight sl, false) := if_pos (decide_eq_true ⟨hplanned, hfed⟩)

end Lengths

/-! ### The share and the correction (R73 to R78) -/

/-- R75: rounding to nearest. -/
theorem shareJoint_bounds (g : Int) {joints : Int} (hpos : 0 < joints) :
    2 * g - joints < 2 * joints * shareJoint g joints ∧ 2 * joints * shareJoint g joints ≤ 2 * g + joints := by
  have hdiv := Int.mul_ediv_add_emod (2 * g + joints) (2 * joints)
  have hnonneg := Int.emod_nonneg (2 * g + joints) (b := 2 * joints) (by omega)
  have hlt := Int.emod_lt_of_pos (2 * g + joints) (b := 2 * joints) (by omega)
  rw [shareJoint]
  generalize 2 * joints * ((2 * g + joints) / (2 * joints)) = product at hdiv ⊢
  omega

theorem clamp_bounds {lo hi : Int} (v : Int) (h : lo ≤ hi) : lo ≤ clamp lo hi v ∧ clamp lo hi v ≤ hi := by
  unfold clamp
  split
  · exact ⟨le_refl _, h⟩
  · split <;> omega

theorem limitFace_ne_iff (face : Int) : limitFace face ≠ face ↔ face < -7888608 ∨ 7884357 < face := by
  rw [limitFace_eq]
  omega

theorem State.correction_first {s : State} {sl : Slot} (h : sl.index = 0) :
    s.correction sl =
      { targetLeft := (s.runOf sl).start, targetJoint := none, predicted := false, clamped := false } := if_pos h

/-- R73 to R78: the correction from the known face of the run predecessor. -/
theorem State.correction_of_face {s : State} {sl : Slot} {p : Nat × Slot} {face : Int} {measured : Bool}
    (hindex : sl.index ≠ 0) (hp : s.predecessor sl = some p) (hface : s.knownFace p.2 = some (face, measured))
    {e share joint : Int} (he : e = limitFace face)
    (hshare : share = shareJoint (s.gap (s.runOf sl) sl.index e) (((s.runOf sl).n : Int) - sl.index))
    (hjoint : joint = clamp (s.profileOf sl).jmin (s.profileOf sl).jmax share) :
    s.correction sl =
      { targetLeft := e + joint, targetJoint := some joint, predicted := !measured
        clamped := joint ≠ share || e ≠ face } := by
  have href : s.reference sl = (face, measured) := by
    rw [State.reference, hp]
    exact congrArg (Option.getD · _) hface
  subst he hshare hjoint
  rw [State.correction, if_neg hindex, href]

/-- Settles O41, by the equation of the correction, the rounding of the share and the limits of joint and face. -/
theorem issueJointIsTheShareWithinTheProfile : Obligations.IssueJointIsTheShareWithinTheProfile := by
  refine ⟨fun s sl p face measured k hindex hlt hk hp hface => ?_, fun _ _ => State.correction_first,
    fun s sl => ⟨fun cut => State.currentLength_of_cut, fun gauged h hg => ?_, fun hcloser hg => ?_,
      fun hcloser hcut hg => ?_⟩,
    fun s sl => ⟨State.knownFace_of_unplaced, fun hplanned hfed => ⟨fun m hm => ?_, fun left hm hleft => ?_⟩⟩,
    fun _ _ _ _ => rfl⟩
  · subst hk
    have hcorrection := State.correction_of_face hindex hp hface rfl rfl rfl
    have hbounds := shareJoint_bounds (s.gap (s.runOf sl) sl.index (limitFace face))
      (joints := ((s.runOf sl).n : Int) - sl.index) (by omega)
    refine ⟨limitFace face, _, _, _, _, limitFace_eq face, rfl, rfl, rfl, hbounds.1, hbounds.2, rfl,
      clamp_bounds _, ?_⟩
    rw [hcorrection]
    refine ⟨rfl, rfl, Bool.not_eq_true' _ ▸ Iff.rfl, ?_⟩
    rw [Bool.or_eq_true, decide_eq_true_eq, decide_eq_true_eq, limitFace_ne_iff]
    rfl
  · rw [State.currentLength_of_uncut h, hg, Option.getD_some]
  · rw [State.currentLength_of_uncut (.inl hcloser), hg, Option.getD_none, State.plannedLength, hcloser]
    rfl
  · rw [State.currentLength_of_uncut (.inr hcut), hg, Option.getD_none, State.plannedLength, hcloser]
    rfl
  · rw [State.knownFace_of_face hplanned hfed, hm]
  · rw [State.knownFace_of_face hplanned hfed, hm, State.targetRight, hleft, Option.getD_some]

/-! ### The expiry of an open joint (R127) -/

section Expiry

variable {s : State} {id : Nat} {r : Run} {j : OpenJoint} (hr : s.run id = some r) (hj : r.openJoint = some j)
include hr hj

theorem jointExpiry_of_due
    (hdue : s.openTime r ≤ elapsed s.siteTime (j.deadline - BitVec.ofNat 32 (s.openTime r))) :
    jointExpiry id s =
      match r.slotIds[j.index + 1]? with
      | none => s.updateRun id fun r => { r with openJoint := none }
      | some next => (s.updateRun id fun r => { r with openJoint := none }).updateSlot next Slot.afterExpiry := by
  simp only [jointExpiry, hr, hj]
  exact if_pos (decide_eq_true hdue)

theorem jointExpiry_of_not_due
    (hdue : elapsed s.siteTime (j.deadline - BitVec.ofNat 32 (s.openTime r)) < s.openTime r) :
    jointExpiry id s = s := by
  simp only [jointExpiry, hr, hj]
  exact if_neg fun h => absurd (of_decide_eq_true h) (Nat.not_le.mpr hdue)

end Expiry

theorem Slot.afterExpiry_of_waiting {sl : Slot} (h : sl.state = .planned ∨ sl.state = .fed) :
    sl.afterExpiry = { sl with reapply := true } := by
  rcases h with h | h <;> simp only [Slot.afterExpiry, h]

theorem Slot.afterExpiry_of_inHand {sl : Slot} (h : sl.state = .issued ∨ sl.state = .uncertain) :
    sl.afterExpiry = { sl with cold := true } := by
  rcases h with h | h <;> simp only [Slot.afterExpiry, h]

/-- Settles O45, by the run whose open joint ends and the slot after it. -/
theorem openJointExpiryMarksTheNextSlot : Obligations.OpenJointExpiryMarksTheNextSlot := by
  refine ⟨fun s r c hc => by rw [State.openTime, hc]; rfl, fun id r j s hs hr hj => ?_⟩
  have hexec : exec (.openJointExpiry id) s = .next (jointExpiry id s) :=
    event_of_running (jointExpiry id) s (State.held_of_running hs)
  rw [hexec]
  refine ⟨fun hdue => ⟨_, rfl, ?_⟩, fun hdue => by rw [jointExpiry_of_not_due hr hj hdue]⟩
  have hrun : (s.updateRun id fun r => { r with openJoint := none }).run id = some { r with openJoint := none } := by
    rw [State.updateRun_run_same, hr, Option.map_some]
  have hothers (k : Nat) (hk : k ≠ id) : (s.updateRun id fun r => { r with openJoint := none }).run k = s.run k :=
    State.updateRun_run_other _ _ hk
  rw [jointExpiry_of_due hr hj hdue]
  cases hnext : r.slotIds[j.index + 1]? with
  | none =>
    refine ⟨hrun, hothers, fun n sl hn => ?_, fun _ _ => rfl, rfl⟩
    cases hn
  | some next =>
    refine ⟨hrun, hothers, fun n sl hn hsl => ?_, fun k hk => ?_, rfl⟩
    · cases hn
      have hslot : ((s.updateRun id fun r => { r with openJoint := none }).updateSlot next Slot.afterExpiry).slot next =
          some sl.afterExpiry := by
        rw [State.updateSlot_slot_same, State.updateRun_slot, hsl, Option.map_some]
      rw [hslot]
      exact ⟨fun h => by rw [Slot.afterExpiry_of_waiting h], fun h => by rw [Slot.afterExpiry_of_inHand h]⟩
    · rw [State.updateSlot_slot_other _ _ fun h => hk (congrArg some h.symm), State.updateRun_slot]

end Sys2Proof.Machine
end

section
/-! NEXT that waits: the eleven conditions in their order (06 R112 to R118, 11 R190). -/

namespace Sys2Proof.Machine

/-! ### The slot in hand (R111, R114, R190) -/

theorem SlotState.inHand_iff {st : SlotState} : st.inHand = true ↔ st = .issued ∨ st = .uncertain := decide_eq_true_iff

theorem State.inHand_spec {s : State} {e : Nat × Slot} (h : s.inHand = some e) :
    e ∈ s.slots ∧ (e.2.state = .issued ∨ e.2.state = .uncertain) :=
  ⟨List.mem_of_find?_eq_some h, SlotState.inHand_iff.mp (by simpa using List.find?_some h)⟩

theorem State.inHand_none_spec {s : State} (h : s.inHand = none) (e : Nat × Slot) (he : e ∈ s.slots) :
    e.2.state ≠ .issued ∧ e.2.state ≠ .uncertain := by
  have hnot := List.find?_eq_none.mp h e he
  rwa [SlotState.inHand_iff, not_or] at hnot

/-- R114, R190: while a slot is ISSUED the answer repeats its place order. -/
theorem State.busyReply_issued {s : State} {id : Nat} {sl : Slot} (h : sl.state = .issued) :
    s.busyReply id sl = Reply.plain .busy
      (u16 id ++ [sl.generation.getD 0] ++ s24Field (sl.targetLeft.getD 0 - s.station.ox) ++
        s24Field (0 - s.station.oy) ++ s24Field ((s.courseOf sl).baseZ - s.station.oz) ++
        u8 (sl.targetJoint.getD 0).toNat ++ u16 (s.currentLength sl).toNat ++
        flagsByte [sl.reapply, sl.predicted, sl.clamped, sl.closer, true, sl.targetJoint.isSome] ++ u8 3) := by
  rw [State.busyReply, if_pos h, State.orderField, h]
  rfl

theorem State.busyReply_uncertain {s : State} {id : Nat} {sl : Slot} (h : sl.state = .uncertain) :
    s.busyReply id sl = Reply.plain .busy (u16 id ++ List.replicate 14 0 ++ u8 4) := by
  rw [State.busyReply, if_neg (by rw [h]; nofun), uncertainField, h]
  rfl

theorem next_busy {s : State} {e : Nat × Slot} (h : s.inHand = some e) : next s = (s.busyReply e.1 e.2, s) := by
  rw [next, h]

/-! ### The part, the truck and the belt (R112 conditions 2 to 7) -/

theorem next_held {s : State} {r : Reply} (hhand : s.inHand = none) (hhold : s.nextHold = some r) :
    next s = (r, s) := by
  rw [next, hhand, hhold]

theorem nextAtHead_of_noBrick {s : State} (h : ∀ e, s.queue.head? = some e → e.position = .onBelt) :
    nextAtHead s = (Reply.waitFor .noBrick s.headField, s) := by
  cases hqueue : s.queue with
  | nil => simp only [nextAtHead, hqueue]
  | cons e rest =>
    have hbelt : e.position = .onBelt := h e (by rw [hqueue]; rfl)
    simp only [nextAtHead, hqueue]
    exact if_pos hbelt

/-- R116: the byte of the head's position. -/
theorem State.headField_eq (s : State) :
    s.headField = optField 4 (fun (e : Entry) =>
      [e.generation] ++ u16 e.slot ++ u8 (if e.position = .atGripper then 1 else 0)) s.queue.head? := by
  have hposition (p : Position) : p.value = if p = .atGripper then 1 else 0 := by cases p <;> rfl
  simp only [State.headField, hposition]

theorem next_atHead {s : State} (hhand : s.inHand = none) (hhold : s.nextHold = none) : next s = nextAtHead s := by
  rw [next, hhand, hhold]

/-! ### The wall under the brick (R112 conditions 8 to 11) -/

theorem nextAtHead_held {s : State} {e : Entry} {rest : List Entry} {sl : Slot} {r : Reply}
    (hqueue : s.queue = e :: rest) (hgripper : e.position = .atGripper) (hsl : s.slot e.slot = some sl)
    (hhead : s.headHold e.slot sl = some r) : nextAtHead s = (r, s) := by
  simp only [nextAtHead, hqueue, hsl, hhead]
  exact if_neg (by rw [hgripper]; nofun)

section HeadHold

variable {s : State} {id : Nat} {sl : Slot}

theorem State.headHold_reach (hreach : s.inReach sl = false) :
    s.headHold id sl = some (Reply.waitFor .reach (u16 id)) := if_pos hreach

variable (hreach : s.inReach sl = true)
include hreach

theorem State.headHold_predecessor {p : Nat × Slot} (hp : s.predecessor sl = some p) (hplaced : p.2.state ≠ .placed)
    (hverified : p.2.state ≠ .verified) :
    s.headHold id sl = some (Reply.waitFor .predecessor (u16 p.1 ++ u8 p.2.state.value)) := by
  have hunlaid : s.unlaidPredecessor sl = some p := by
    rw [State.unlaidPredecessor, hp]
    exact if_pos (decide_eq_true ⟨hplaced, hverified⟩)
  rw [State.headHold, if_neg (by rw [hreach]; nofun), hunlaid]

variable (hlaid : ∀ p, s.predecessor sl = some p → p.2.state = .placed ∨ p.2.state = .verified)
include hlaid

theorem State.headHold_support {before after : List (Nat × Slot)} {u : Nat × Slot}
    (hsplit : s.slotsAt sl.supports = before ++ u :: after) (hbefore : ∀ b ∈ before, b.2.state = .verified)
    (hu : u.2.state ≠ .verified) :
    s.headHold id sl = some (Reply.waitFor .support (u16 u.1 ++ u8 u.2.state.value)) := by
  have hunverified : s.unverifiedSupport sl = some u :=
    List.find?_eq_some_iff_append.mpr
      ⟨decide_eq_true hu, before, after, hsplit, fun b hb => by simpa using hbefore b hb⟩
  rw [State.headHold, if_neg (by rw [hreach]; nofun), (s.unlaidPredecessor_eq_none_iff sl).mpr hlaid]
  dsimp only
  rw [hunverified]

/-- R118: the largest time that a support still has to stand. -/
theorem State.headHold_setting (hverified : ∀ u ∈ s.slotsAt sl.supports, u.2.state = .verified) {left : Nat}
    (hpos : 0 < left) (hle : ∀ u ∈ s.slotsAt sl.supports, s.stillSetting u.2 ≤ left)
    (hslowest : ∃ u ∈ s.slotsAt sl.supports, s.stillSetting u.2 = left) :
    s.headHold id sl = some (Reply.waitFor .setting (u32 left)) := by
  have hsetting : s.supportsSetting sl = left :=
    largest_eq_of_greatest (List.mem_map.mpr hslowest) (List.forall_mem_map.mpr hle)
  rw [State.headHold, if_neg (by rw [hreach]; nofun), (s.unlaidPredecessor_eq_none_iff sl).mpr hlaid]
  dsimp only
  rw [(s.unverifiedSupport_eq_none_iff sl).mpr hverified, hsetting]
  exact if_pos hpos

end HeadHold

/-- Settles O40, by the eleven conditions of NEXT in their order. -/
theorem nextWaitsInOrder : Obligations.NextWaitsInOrder := by
  refine ⟨fun s => ⟨fun e => State.inHand_spec, State.inHand_none_spec, fun sl => ⟨fun h => ?_, fun placed h => ?_⟩⟩,
    fun tag answer s hs hcases => ?_,
    fun tag e rest sl answer s hs hhand harm hsevere huse hdatum hwind hqueue hgripper hsl hcases => ?_⟩
  · rw [State.stillSetting, h]
  · rw [State.stillSetting, h]
  · refine answersUnchanged_of_body (by rfl) rfl hs next_ignores nofun ?_
    obtain ⟨id, sl, hhand, ⟨hissued, rfl⟩ | ⟨huncertain, rfl⟩⟩ | ⟨hhand, hcases⟩ := hcases
    · rw [next_busy hhand, State.busyReply_issued hissued]
    · rw [next_busy hhand, State.busyReply_uncertain huncertain]
    obtain ⟨harm, rfl⟩ | ⟨harm, ⟨hsevere, rfl⟩ | ⟨hsevere, ⟨huse, rfl⟩ | ⟨huse, ⟨hdatum, rfl⟩ |
      ⟨hdatum, ⟨hwind, rfl⟩ | ⟨hwind, hhead, rfl⟩⟩⟩⟩⟩ := hcases
    · exact next_held hhand (if_pos harm)
    · exact next_held hhand (by rw [State.nextHold, if_neg (by rw [harm]; nofun), if_pos hsevere]; rfl)
    · exact next_held hhand (by
        rw [State.nextHold, if_neg (by rw [harm]; nofun), if_neg (by rw [hsevere]; nofun), if_pos huse]; rfl)
    · exact next_held hhand (by
        rw [State.nextHold, if_neg (by rw [harm]; nofun), if_neg (by rw [hsevere]; nofun),
          if_neg (by rw [huse]; nofun), if_pos hdatum])
    · exact next_held hhand (by
        rw [State.nextHold, if_neg (by rw [harm]; nofun), if_neg (by rw [hsevere]; nofun),
          if_neg (by rw [huse]; nofun), if_neg (by rw [hdatum]; nofun), if_pos hwind])
    · rw [next_atHead hhand (s.nextHold_eq_none_iff.mpr ⟨harm, hsevere, huse, hdatum, hwind⟩),
        nextAtHead_of_noBrick hhead, State.headField_eq]
  · have hnext := next_atHead hhand (s.nextHold_eq_none_iff.mpr ⟨harm, hsevere, huse, hdatum, hwind⟩)
    refine answersUnchanged_of_body (by rfl) rfl hs next_ignores nofun
      (hnext.trans (nextAtHead_held hqueue hgripper hsl ?_))
    obtain ⟨hreach, rfl⟩ | ⟨hreach, ⟨p, hp, hplaced, hverified, rfl⟩ | ⟨hlaid,
      ⟨before, u, after, hsplit, hbefore, hu, rfl⟩ | ⟨hverified, left, hpos, hle, hslowest, rfl⟩⟩⟩ := hcases
    · exact State.headHold_reach hreach
    · exact State.headHold_predecessor hreach hp hplaced hverified
    · exact State.headHold_support hreach hlaid hsplit hbefore hu
    · exact State.headHold_setting hreach hlaid hverified hpos hle hslowest

end Sys2Proof.Machine
end

section
/-! What a placement and a verification leave (06 R121, R126, 07 R141 to R145): the records that each writes, the checks
after a placement, and what a verification says of flags, capture, reasons and course (`Judged`). -/

namespace Sys2Proof.Machine

/-! ### A placement (R121, R126, R137) -/

section Place

variable (s : State) (id : Nat) (sl : Slot)

theorem State.place_run_same :
    (s.place id sl).run sl.run =
      (s.run sl.run).map fun r => r.afterPlaced sl.index s.siteTime (s.profileOf sl).tOpen := by
  unfold State.place
  dsimp only
  rw [State.updateRun_run_same, State.removeHead_frame]
  rfl

theorem State.place_run_other {r : Nat} (hr : r ≠ sl.run) : (s.place id sl).run r = s.run r := by
  unfold State.place
  dsimp only
  rw [State.updateRun_run_other _ _ hr, State.removeHead_frame]
  rfl

theorem State.removeHead_station :
    s.removeHead.station = if s.queue.tail = [] then s.station.afterFeedEmpty else s.station := by
  unfold State.removeHead
  dsimp only
  split
  · exact State.feedEmpty_station _
  · rfl

theorem State.removeHead_reasons : s.removeHead.reasons = s.reasonsAfterHead := by
  unfold State.removeHead State.reasonsAfterHead
  dsimp only
  split
  · exact State.feedEmpty_reasons _
  · rfl

theorem State.place_station :
    (s.place id sl).station = if s.queue.tail = [] then s.station.afterFeedEmpty else s.station :=
  State.removeHead_station (s.updateSlot id _)

theorem State.place_reasons : (s.place id sl).reasons = s.reasonsAfterHead :=
  State.removeHead_reasons (s.updateSlot id _)

theorem State.place_queue : (s.place id sl).queue = s.queue.tail := by rw [State.place_frame]

theorem State.place_courses : (s.place id sl).courses = s.courses := by rw [State.place_frame]

theorem State.place_flags : (s.place id sl).flags = s.flags := by rw [State.place_frame]

theorem State.place_geometryCapture : (s.place id sl).geometryCapture = s.geometryCapture := by rw [State.place_frame]

theorem State.place_siteTime : (s.place id sl).siteTime = s.siteTime := by rw [State.place_frame]

theorem State.place_slot_same {x : Slot} (hx : s.slot id = some x) :
    (s.place id sl).slot id = some (x.placedAt s.siteTime) := by
  rw [State.place_slot, State.updateSlot_slot_same, hx, Option.map_some]

theorem State.place_slot_other {j : Nat} (hj : j ≠ id) : (s.place id sl).slot j = s.slot j := by
  rw [State.place_slot, State.updateSlot_slot_other _ _ hj]

/-! ### The checks after a placement (R142) -/

/-- R126: of a run, a placement changes the open joint alone. -/
theorem State.place_runOf (x : Slot) :
    ∃ joint, (s.place id sl).runOf x = { s.runOf x with openJoint := joint } := by
  by_cases hr : x.run = sl.run
  · rw [State.runOf, State.runOf, hr, State.place_run_same]
    cases s.run sl.run with
    | none => exact ⟨_, rfl⟩
    | some r => exact ⟨_, rfl⟩
  · exact ⟨_, by rw [State.runOf, State.place_run_other _ _ _ hr]; rfl⟩

theorem State.place_courseOf (x : Slot) : (s.place id sl).courseOf x = s.courseOf x := by
  rw [State.courseOf, State.course, State.place_courses]
  rfl

theorem State.place_currentLength (x : Slot) : (s.place id sl).currentLength x = s.currentLength x := by
  have hplanned : (s.place id sl).plannedLength x = s.plannedLength x := by
    obtain ⟨joint, hrun⟩ := s.place_runOf id sl x
    rw [State.plannedLength, hrun, State.place_frame]
    rfl
  rw [State.currentLength, State.currentLength, hplanned]

/-- R142: a placement keeps the measurement that the JOINT check reads. -/
theorem State.place_predecessor_measurement (x : Slot) :
    ((s.place id sl).predecessor x).bind (fun p => p.2.measurement) =
      (s.predecessor x).bind fun p => p.2.measurement := by
  have hslot (j : Nat) : ((s.place id sl).slot j).bind Slot.measurement = (s.slot j).bind Slot.measurement := by
    by_cases hj : j = id
    · subst hj
      rw [State.place_slot, State.updateSlot_slot_same]
      cases s.slot j <;> rfl
    · rw [State.place_slot_other _ _ _ hj]
  obtain ⟨joint, hrun⟩ := s.place_runOf id sl x
  rw [State.predecessor, State.predecessor, hrun]
  split
  · rfl
  · cases hprevious : (s.runOf x).slotIds[x.index - 1]? with
    | none => rfl
    | some j =>
      simp only [Option.bind_map]
      exact hslot j

theorem State.place_failures (x : Slot) (now : Time) (m : Measurement) :
    (s.place id sl).failures (x.placedAt now) m = s.failures x m := by
  have hread : (s.place id sl).failures (x.placedAt now) m = (s.place id sl).failures x m := rfl
  obtain ⟨joint, hrun⟩ := s.place_runOf id sl x
  have hparams : (s.place id sl).params = s.params := by rw [State.place_frame]
  have htop (c : Course) : (s.place id sl).topOf c = s.topOf c := by
    rw [State.place_frame]
    rfl
  have hprofile : (s.place id sl).profileOf x = s.profileOf x := by
    rw [State.profileOf, State.place_courseOf, State.place_frame]
    rfl
  rw [hread]
  simp only [State.failures, State.actualJoint, State.targetRight, hrun, hparams, htop, hprofile,
    State.place_courseOf, State.place_currentLength, State.place_predecessor_measurement]
  rfl

end Place

/-! ### A verification (R141 to R145) -/

section Verify

variable {s : State} {id : Nat} {x : Slot} {port : Port}

theorem State.verify_unmeasured (hx : s.slot id = some x) (hm : x.measurement = none) : s.verify id port = s := by
  simp only [State.verify, hx, hm]

variable {m : Measurement}

theorem State.verify_passes (hx : s.slot id = some x) (hm : x.measurement = some m) (hl : s.failures x m = []) :
    s.verify id port = s.verifySlot id x := by
  simp only [State.verify, hx, hm]
  exact if_pos hl

theorem State.verify_fails (hx : s.slot id = some x) (hm : x.measurement = some m) (hl : s.failures x m ≠ []) :
    s.verify id port = s.reject id x port (s.failures x m) := by
  simp only [State.verify, hx, hm]
  exact if_neg hl

/-- R143, R144: a verification writes no slot but its own. -/
theorem State.verify_slot_other (s : State) (port : Port) {j : Nat} (hj : j ≠ id) :
    (s.verify id port).slot j = s.slot j := by
  unfold State.verify
  split
  · rfl
  · split
    · rfl
    · split
      · exact (State.completionTest_slot _ _ j).trans (s.updateSlot_slot_other _ hj)
      · exact (s.reject_slot ..).trans (s.updateSlot_slot_other _ hj)

theorem State.verify_processCapture (s : State) (id : Nat) (port : Port) :
    (s.verify id port).processCapture = s.processCapture := by
  unfold State.verify
  split
  · rfl
  · split
    · rfl
    · split
      · rw [State.verifySlot, State.completionTest_frame]
        rfl
      · rw [State.reject_eq]
        rfl

theorem State.verify_slot_same (port : Port) (hx : s.slot id = some x) (hm : x.measurement = some m) :
    (s.verify id port).slot id = some (x.verifiedWith (s.failures x m)) := by
  by_cases hl : s.failures x m = []
  · rw [State.verify_passes hx hm hl, State.verifySlot, State.completionTest_slot, State.updateSlot_slot_same, hx,
      Slot.verifiedWith, if_pos hl, Option.map_some]
  · rw [State.verify_fails hx hm hl, State.reject_slot, State.updateSlot_slot_same, hx, Slot.verifiedWith, if_neg hl,
      Option.map_some, Slot.rejectedFor]

theorem detailOf_eq (l : List Failure) : detailOf l = (l.findSome? Failure.deviation).getD 0 := by
  rw [detailOf, List.headD_eq_head?_getD, List.head?_filterMap]

/-- What a verification is judged by is read from the flags, the geometry capture, site time and the courses. -/
theorem Judged.of_same {s' t : State} {entry : Nat} {reasons : BitVec 11} {l : List Failure}
    (hflags : s'.flags = s.flags) (hcapture : s'.geometryCapture = s.geometryCapture)
    (htime : s'.siteTime = s.siteTime) (hcourses : s'.courses = s.courses)
    (h : Judged s' t id entry port reasons l) : Judged s t id entry port reasons l := by
  simp only [Judged, State.capturedCourse, State.course, hflags, hcapture, htime, hcourses] at h ⊢
  exact h

theorem State.completionTest_of_none {entry : Nat} (h : s.course entry = none) : s.completionTest entry = s := by
  rw [State.completionTest, h]

/-- R46, R143: what the completion test says when no check failed. -/
theorem State.completionTest_judged (s : State) (id entry : Nat) (port : Port) :
    Judged s (s.completionTest entry) id entry port s.reasons [] := by
  have hframe := s.completionTest_frame entry
  have hslots (c : Course) := State.courseSlots_congr (s.completionTest_runs entry) (s.completionTest_slots entry) c
  refine ⟨fun _ => ⟨?_, ?_, fun c hc hactive hall => ?_, fun hopen => ?_⟩, nofun⟩
  · rw [hframe]
  · rw [hframe]
  · rw [hslots] at hall
    refine ⟨State.completionTest_course_same hc ⟨hactive, hall⟩, fun j hj => State.completionTest_course_other _ hj, ?_⟩
    rw [State.completionTest_completes hc ⟨hactive, hall⟩]
    rfl
  · have hkeeps : s.completionTest entry = s := by
      cases hc : s.course entry with
      | none => exact State.completionTest_of_none hc
      | some c =>
        refine State.completionTest_keeps hc fun ⟨hactive, hall⟩ => ?_
        obtain ⟨e, he, hne⟩ := hopen c hc hactive
        exact hne (hall e (hslots c ▸ he))
    rw [hkeeps]
    exact ⟨rfl, rfl⟩

theorem State.verifySlot_judged (s : State) (id : Nat) (x : Slot) (port : Port) :
    Judged s (s.verifySlot id x) id x.course port s.reasons [] :=
  Judged.of_same (s := s) (s' := s.updateSlot id fun sl => { sl with state := .verified }) rfl rfl rfl rfl
    (State.completionTest_judged _ id x.course port)

/-- R144, R145: what a rejection says. -/
theorem State.reject_judged (s : State) (id : Nat) (x : Slot) (port : Port) {l : List Failure} (hl : l ≠ []) :
    Judged s (s.reject id x port l) id x.course port s.reasons l := by
  refine ⟨fun hnil => absurd hnil hl, ?_⟩
  rintro f rest rfl
  rw [State.reject_eq, detailOf_eq]
  exact ⟨rfl, rfl, rfl, rfl⟩

theorem State.verify_judged (port : Port) (hx : s.slot id = some x) (hm : x.measurement = some m) :
    Judged s (s.verify id port) id x.course port s.reasons (s.failures x m) := by
  by_cases hl : s.failures x m = []
  · rw [State.verify_passes hx hm hl, hl]
    exact s.verifySlot_judged id x port
  · rw [State.verify_fails hx hm hl]
    exact s.reject_judged id x port hl

end Verify

/-! ### A placement and the verification that follows (R121, R137) -/

/-- A placement and a verification change the slots, the runs, the queue, the station, the courses and what a rejection's
report changes. -/
theorem State.place_verify_frame (s : State) (id : Nat) (sl : Slot) (port : Port) :
    (s.place id sl).verify id port =
      { s with
        slots := ((s.place id sl).verify id port).slots, runs := (s.place id sl).runs, queue := s.queue.tail
        station := (s.place id sl).station, courses := ((s.place id sl).verify id port).courses
        flags := ((s.place id sl).verify id port).flags
        geometryCapture := ((s.place id sl).verify id port).geometryCapture
        reasons := ((s.place id sl).verify id port).reasons, attn := ((s.place id sl).verify id port).attn
        haltReq := ((s.place id sl).verify id port).haltReq } := by
  have hverify := (s.place id sl).verify_frame id port
  rw [State.verify_processCapture] at hverify
  generalize (s.place id sl).verify id port = v at hverify ⊢
  rw [State.place_frame] at hverify
  rw [hverify]

/-- R121, R137: the placement now, and the verification against the measurement that the slot holds. -/
theorem State.place_verify_judged {s : State} {id : Nat} {x : Slot} (sl : Slot) (port : Port) {m : Measurement}
    (hx : s.slot id = some x) (hm : x.measurement = some m) :
    ((s.place id sl).verify id port).slot id = some ((x.placedAt s.siteTime).verifiedWith (s.failures x m)) ∧
      Judged s ((s.place id sl).verify id port) id x.course port s.reasonsAfterHead (s.failures x m) := by
  have hplaced := s.place_slot_same id sl hx
  have hslot := State.verify_slot_same (m := m) port hplaced hm
  have hjudged := State.verify_judged (m := m) port hplaced hm
  rw [State.place_failures] at hslot hjudged
  rw [State.place_reasons] at hjudged
  exact ⟨hslot, hjudged.of_same (s.place_flags id sl) (s.place_geometryCapture id sl) (s.place_siteTime id sl)
    (s.place_courses id sl)⟩

end Sys2Proof.Machine
end

section
/-! PLACED of a slot in hand, and MEASURE (06 R121, R122, R126, 07 R134 to R138). -/

namespace Sys2Proof.Machine

theorem withPortUnitOf_judged {s t v : State} {id entry : Nat} {port : Port} {reasons : BitVec 11} {l : List Failure}
    (ht : t = v.withPortUnitOf t) (h : Judged s v id entry port reasons l) : Judged s t id entry port reasons l := by
  rw [ht]
  exact h

theorem placed_inHand {s : State} {id : Nat} {sl : Slot} (hid : id < 512) (hsl : s.slot id = some sl)
    (hstate : sl.state = .issued ∨ sl.state = .uncertain) :
    placed id s =
      (Reply.plain (if sl.cold then .late else .ok) (((s.place id sl).verify id .a).slotStateField id),
        (s.place id sl).verify id .a) := by
  rw [placed, withSlot_of_live _ hid hsl]
  rcases hstate with h | h <;> rw [h] <;> rfl

/-- Settles O42, by the placement and the verification that follows it. -/
theorem placedLaysTheBrick : Obligations.PlacedLaysTheBrick := by
  intro tag id sl s hs hid hsl hstate
  obtain ⟨t, hnext, hans, ht⟩ :=
    exec_of_body (by rfl) rfl hs (placed_ignores id) nofun (placed_inHand hid hsl hstate)
  have hframe := s.place_verify_frame id sl .a
  have hrun (r : Nat) : t.run r = (s.place id sl).run r :=
    (State.run_of_withPortUnitOf ht r).trans (congrArg (Table.find · r) (congrArg State.runs hframe :))
  have hslot := State.slot_of_withPortUnitOf ht
  have hother (j : Nat) (hj : j ≠ id) : t.slot j = s.slot j :=
    (hslot j).trans ((State.verify_slot_other _ _ hj).trans (s.place_slot_other id sl hj))
  have hstation : t.station = if s.queue.tail = [] then s.station.afterFeedEmpty else s.station :=
    (congrArg State.station ht).trans ((congrArg State.station hframe).trans (s.place_station id sl))
  have hunmeasured (hm : sl.measurement = none) : (s.place id sl).verify id .a = s.place id sl :=
    State.verify_unmeasured (s.place_slot_same id sl hsl) hm
  have hanswer (x : Slot) (hx : t.slot id = some x) : ∃ state, (t.slot id).map Slot.state = some state ∧
      Answered s (.placed tag id) ⟨.a, tag, 34⟩ t (Reply.plain (if sl.cold then .late else .ok) (u8 state.value)) := by
    rw [State.slotStateField_of_slot ((hslot id).symm.trans hx)] at hans
    exact ⟨x.state, by rw [hx]; rfl, hans⟩
  refine ⟨t, hnext, ?_, fun hm => ?_, fun m hm => ?_, hother, (congrArg State.queue ht).trans (congrArg State.queue hframe),
    (hrun _).trans (s.place_run_same id sl), fun r hr => (hrun r).trans (s.place_run_other id sl hr), hstation, ?_⟩
  · cases hm : sl.measurement with
    | none => exact hanswer _ ((hslot id).trans (by rw [hunmeasured hm, s.place_slot_same id sl hsl]))
    | some m => exact hanswer _ ((hslot id).trans (State.place_verify_judged sl .a hsl hm).1)
  · rw [hunmeasured hm] at ht
    exact ⟨(State.slot_of_withPortUnitOf ht id).trans (s.place_slot_same id sl hsl),
      (congrArg State.courses ht).trans (s.place_courses id sl), (congrArg State.flags ht).trans (s.place_flags id sl),
      (congrArg State.geometryCapture ht).trans (s.place_geometryCapture id sl),
      (congrArg State.reasons ht).trans (s.place_reasons id sl)⟩
  · obtain ⟨hsame, hjudged⟩ := State.place_verify_judged sl .a hsl hm
    exact ⟨(hslot id).trans hsame, withPortUnitOf_judged ht hjudged⟩
  · generalize (s.place id sl).verify id .a = v at hframe ht
    rw [hframe] at ht
    rw [ht]
    rfl

/-! ### MEASURE (R134 to R138) -/

/-- R135: a slot that holds the measurement given. -/
def Slot.holding (sl : Slot) (m : Measurement) : Slot := { sl with measurement := some m }

section Measure

variable {s : State} {id : Nat} {sl : Slot} (m : Measurement) (hsl : s.slot id = some sl)
include hsl

variable (hid : id < 512)
include hid

theorem measure_holds (hstate : sl.state = .issued) :
    measure id m s = (Reply.plain .held [], s.updateSlot id fun x => x.holding m) := by
  rw [measure, withSlot_of_live _ hid hsl, hstate]
  rfl

theorem measure_verifies (hstate : sl.state = .placed) :
    measure id m s =
      (Reply.okWith (((s.storeMeasurement id m).verify id .t).measuredField id),
        (s.storeMeasurement id m).verify id .t) := by
  rw [measure, withSlot_of_live _ hid hsl, hstate]

theorem measure_places (hstate : sl.state = .uncertain) :
    measure id m s =
      (Reply.okWith ((((s.storeMeasurement id m).place id sl).verify id .t).measuredField id),
        ((s.storeMeasurement id m).place id sl).verify id .t) := by
  rw [measure, withSlot_of_live _ hid hsl, hstate]

theorem measure_notPlaced (hstate : sl.state = .planned ∨ sl.state = .fed) :
    measure id m s = (Reply.refusedWith .notPlaced (u8 sl.state.value), s) := by
  rw [measure, withSlot_of_live _ hid hsl]
  rcases hstate with h | h <;> rw [h]

theorem measure_duplicate (hstate : sl.state = .verified ∨ sl.state = .rejected) :
    measure id m s = (Reply.plain .duplicate (u8 sl.state.value), s) := by
  rw [measure, withSlot_of_live _ hid hsl]
  rcases hstate with h | h <;> rw [h]

end Measure

/-- R134: the state after the service, and the reasons of a rejection. -/
theorem State.measuredField_of_verified {s : State} {id : Nat} {x : Slot} {l : List Failure}
    (h : s.slot id = some (x.verifiedWith l)) :
    s.measuredField id =
      if l = [] then u8 6 else u8 7 ++ l.map fun f => Config.rejectCode f.reason.severity := by
  rw [State.measuredField, State.slotStateField_of_slot h, h, Slot.verifiedWith]
  dsimp only
  by_cases hl : l = []
  · rw [if_pos hl, if_pos hl]
    exact List.append_nil _
  · rw [if_neg hl, if_neg hl]
    dsimp only
    rw [if_pos rfl, rejectField, List.map_map]
    rfl

/-- Settles O46, by the state of the slot: the measurement held, the verification, and the placement before it. -/
theorem measureStoresAndVerifies : Obligations.MeasureStoresAndVerifies := by
  rintro tag id x y z sl held m l s hs hid hsl hm hheld hl
  have hexec : exec (.measure tag id x y z) s = serve (.measure tag id x y z) (measure id m) s := by
    rw [hm]
    rfl
  have hstored := State.storeMeasurement_slot m hsl
  rw [← hheld] at hstored
  have hfailures : (s.storeMeasurement id m).failures held m = l := by
    rw [hheld, hl]
    rfl
  have hmeasured : held.measurement = some m := by rw [hheld]
  have hcourse : held.course = sl.course := by rw [hheld]
  have unchanged (r : Reply) (he : measure id m s = (r, s)) :
      AnswersUnchanged s (.measure tag id x y z) ⟨.t, tag, 49⟩ r :=
    answersUnchanged_of_body hexec rfl hs (measure_ignores id m) nofun he
  refine ⟨fun hstate => ?_, fun hstate => ?_, fun hstate => ?_, fun hstate => unchanged _ (measure_notPlaced m hsl hid hstate),
    fun hstate => unchanged _ (measure_duplicate m hsl hid hstate)⟩
  · obtain ⟨t, hnext, hans, hslot, hothers, hframe⟩ :=
      exec_of_updateSlot hexec rfl hs (measure_ignores id m) nofun (measure_holds m hsl hid hstate)
    rw [hsl] at hslot
    exact ⟨t, hnext, hans, hslot.trans (congrArg some hheld.symm), hothers, hframe⟩
  · obtain ⟨t, hnext, hans, ht⟩ :=
      exec_of_body hexec rfl hs (measure_ignores id m) nofun (measure_verifies m hsl hid hstate)
    have hsame := State.verify_slot_same .t hstored hmeasured
    have hjudged := State.verify_judged .t hstored hmeasured
    rw [hfailures] at hsame hjudged
    rw [State.measuredField_of_verified hsame] at hans
    rw [hcourse] at hjudged
    have hslot := State.slot_of_withPortUnitOf ht
    refine ⟨t, hnext, hans, (hslot id).trans hsame, fun j hj => (hslot j).trans ((State.verify_slot_other _ _ hj).trans
      (s.updateSlot_slot_other _ hj)), withPortUnitOf_judged ht (hjudged.of_same rfl rfl rfl rfl), ?_⟩
    have hframe := (s.storeMeasurement id m).verify_frame id .t
    rw [State.verify_processCapture] at hframe
    rw [hframe] at ht
    rw [ht]
    rfl
  · obtain ⟨t, hnext, hans, ht⟩ :=
      exec_of_body hexec rfl hs (measure_ignores id m) nofun (measure_places m hsl hid hstate)
    obtain ⟨hsame, hjudged⟩ := State.place_verify_judged sl .t hstored hmeasured
    rw [hfailures] at hsame hjudged
    rw [State.measuredField_of_verified hsame] at hans
    rw [hcourse] at hjudged
    have hframe := (s.storeMeasurement id m).place_verify_frame id sl .t
    have hslot := State.slot_of_withPortUnitOf ht
    have hrun (r : Nat) : t.run r = ((s.storeMeasurement id m).place id sl).run r :=
      (State.run_of_withPortUnitOf ht r).trans (congrArg (Table.find · r) (congrArg State.runs hframe :))
    refine ⟨t, hnext, hans, (hslot id).trans hsame, fun j hj => (hslot j).trans ((State.verify_slot_other _ _ hj).trans
      (((s.storeMeasurement id m).place_slot_other id sl hj).trans (s.updateSlot_slot_other _ hj))),
      (congrArg State.queue ht).trans (congrArg State.queue hframe),
      (hrun _).trans ((s.storeMeasurement id m).place_run_same id sl),
      fun r hr => (hrun r).trans ((s.storeMeasurement id m).place_run_other id sl hr),
      (congrArg State.station ht).trans ((congrArg State.station hframe).trans
        ((s.storeMeasurement id m).place_station id sl)),
      withPortUnitOf_judged ht (hjudged.of_same rfl rfl rfl rfl), ?_⟩
    generalize ((s.storeMeasurement id m).place id sl).verify id .t = v at hframe ht
    rw [hframe] at ht
    rw [ht]
    rfl

end Sys2Proof.Machine
end
